-- ==== Sys2Proof/Word.lean ====
section
/-! DEFINITION. The machine's word types (`00_scope.md` R5, `20_memory.md` R91) and the plainest
operations on them. -/

namespace Sys2Proof

/-- A byte of memory: 8 bits. -/
abbrev Byte := BitVec 8

/-- A halfword: 16 bits. -/
abbrev Halfword := BitVec 16

/-- A word: 32 bits, the width of every IU register and address (R5). -/
abbrev Word := BitVec 32

/-- A doubleword: 64 bits, moved as two words (R91). -/
abbrev Doubleword := BitVec 64

/-- A register number field of an instruction. -/
abbrev RegNum := BitVec 5

end Sys2Proof
end

