-- ==== Sys2Proof/Syntax.lean ====
section
/-! DEFINITION. The instruction set as syntax: one constructor per row of the opcode table
(`30_encoding.md` R131 to R155). A constructor's arguments are the word's variable fields, the fields
the hardware ignores among them (R173), so that an instruction determines its word. -/

namespace Sys2Proof

/-- Bits 13:0 of a Format 3 instruction that has a second operand (R133, R141): r[rs2] with the asi
field (ignored except by the alternate-space instructions, R145), or a 13-bit signed constant. -/
inductive Operand2 where
  | reg (asi : BitVec 8) (rs2 : RegNum)
  | imm (simm13 : BitVec 13)
  deriving DecidableEq, Repr

/-- The instructions. `a` is the annul bit, `ign` the ignored bit 29 of a Ticc, `low` the ignored bits
13:0 of an RDxxx. Where a rule says that rd or rs1 is ignored, the argument is kept and not used. -/
inductive Instr where
  /-- CALL (R380) -/
  | call (disp30 : BitVec 30)
  /-- UNIMP (R412) -/
  | unimp (rd : RegNum) (const22 : BitVec 22)
  /-- SETHI (R340) -/
  | sethi (rd : RegNum) (imm22 : BitVec 22)
  /-- BN (R364) -/
  | bn (a : Bool) (disp22 : BitVec 22)
  /-- BE (R364) -/
  | be (a : Bool) (disp22 : BitVec 22)
  /-- BLE (R364) -/
  | ble (a : Bool) (disp22 : BitVec 22)
  /-- BL (R364) -/
  | bl (a : Bool) (disp22 : BitVec 22)
  /-- BLEU (R364) -/
  | bleu (a : Bool) (disp22 : BitVec 22)
  /-- BCS (R364) -/
  | bcs (a : Bool) (disp22 : BitVec 22)
  /-- BNEG (R364) -/
  | bneg (a : Bool) (disp22 : BitVec 22)
  /-- BVS (R364) -/
  | bvs (a : Bool) (disp22 : BitVec 22)
  /-- BA (R364) -/
  | ba (a : Bool) (disp22 : BitVec 22)
  /-- BNE (R364) -/
  | bne (a : Bool) (disp22 : BitVec 22)
  /-- BG (R364) -/
  | bg (a : Bool) (disp22 : BitVec 22)
  /-- BGE (R364) -/
  | bge (a : Bool) (disp22 : BitVec 22)
  /-- BGU (R364) -/
  | bgu (a : Bool) (disp22 : BitVec 22)
  /-- BCC (R364) -/
  | bcc (a : Bool) (disp22 : BitVec 22)
  /-- BPOS (R364) -/
  | bpos (a : Bool) (disp22 : BitVec 22)
  /-- BVC (R364) -/
  | bvc (a : Bool) (disp22 : BitVec 22)
  /-- FBN (R370) -/
  | fbn (a : Bool) (disp22 : BitVec 22)
  /-- FBNE (R370) -/
  | fbne (a : Bool) (disp22 : BitVec 22)
  /-- FBLG (R370) -/
  | fblg (a : Bool) (disp22 : BitVec 22)
  /-- FBUL (R370) -/
  | fbul (a : Bool) (disp22 : BitVec 22)
  /-- FBL (R370) -/
  | fbl (a : Bool) (disp22 : BitVec 22)
  /-- FBUG (R370) -/
  | fbug (a : Bool) (disp22 : BitVec 22)
  /-- FBG (R370) -/
  | fbg (a : Bool) (disp22 : BitVec 22)
  /-- FBU (R370) -/
  | fbu (a : Bool) (disp22 : BitVec 22)
  /-- FBA (R370) -/
  | fba (a : Bool) (disp22 : BitVec 22)
  /-- FBE (R370) -/
  | fbe (a : Bool) (disp22 : BitVec 22)
  /-- FBUE (R370) -/
  | fbue (a : Bool) (disp22 : BitVec 22)
  /-- FBGE (R370) -/
  | fbge (a : Bool) (disp22 : BitVec 22)
  /-- FBUGE (R370) -/
  | fbuge (a : Bool) (disp22 : BitVec 22)
  /-- FBLE (R370) -/
  | fble (a : Bool) (disp22 : BitVec 22)
  /-- FBULE (R370) -/
  | fbule (a : Bool) (disp22 : BitVec 22)
  /-- FBO (R370) -/
  | fbo (a : Bool) (disp22 : BitVec 22)
  /-- CBN (R375) -/
  | cbn (a : Bool) (disp22 : BitVec 22)
  /-- CB123 (R375) -/
  | cb123 (a : Bool) (disp22 : BitVec 22)
  /-- CB12 (R375) -/
  | cb12 (a : Bool) (disp22 : BitVec 22)
  /-- CB13 (R375) -/
  | cb13 (a : Bool) (disp22 : BitVec 22)
  /-- CB1 (R375) -/
  | cb1 (a : Bool) (disp22 : BitVec 22)
  /-- CB23 (R375) -/
  | cb23 (a : Bool) (disp22 : BitVec 22)
  /-- CB2 (R375) -/
  | cb2 (a : Bool) (disp22 : BitVec 22)
  /-- CB3 (R375) -/
  | cb3 (a : Bool) (disp22 : BitVec 22)
  /-- CBA (R375) -/
  | cba (a : Bool) (disp22 : BitVec 22)
  /-- CB0 (R375) -/
  | cb0 (a : Bool) (disp22 : BitVec 22)
  /-- CB03 (R375) -/
  | cb03 (a : Bool) (disp22 : BitVec 22)
  /-- CB02 (R375) -/
  | cb02 (a : Bool) (disp22 : BitVec 22)
  /-- CB023 (R375) -/
  | cb023 (a : Bool) (disp22 : BitVec 22)
  /-- CB01 (R375) -/
  | cb01 (a : Bool) (disp22 : BitVec 22)
  /-- CB013 (R375) -/
  | cb013 (a : Bool) (disp22 : BitVec 22)
  /-- CB012 (R375) -/
  | cb012 (a : Bool) (disp22 : BitVec 22)
  /-- ADD (R303) -/
  | add (rd rs1 : RegNum) (src2 : Operand2)
  /-- AND (R312) -/
  | and (rd rs1 : RegNum) (src2 : Operand2)
  /-- OR (R316) -/
  | or (rd rs1 : RegNum) (src2 : Operand2)
  /-- XOR (R320) -/
  | xor (rd rs1 : RegNum) (src2 : Operand2)
  /-- SUB (R308) -/
  | sub (rd rs1 : RegNum) (src2 : Operand2)
  /-- ANDN (R314) -/
  | andn (rd rs1 : RegNum) (src2 : Operand2)
  /-- ORN (R318) -/
  | orn (rd rs1 : RegNum) (src2 : Operand2)
  /-- XNOR (R322) -/
  | xnor (rd rs1 : RegNum) (src2 : Operand2)
  /-- ADDX (R305) -/
  | addx (rd rs1 : RegNum) (src2 : Operand2)
  /-- SUBX (R310) -/
  | subx (rd rs1 : RegNum) (src2 : Operand2)
  /-- ADDcc (R304) -/
  | addcc (rd rs1 : RegNum) (src2 : Operand2)
  /-- ANDcc (R313) -/
  | andcc (rd rs1 : RegNum) (src2 : Operand2)
  /-- ORcc (R317) -/
  | orcc (rd rs1 : RegNum) (src2 : Operand2)
  /-- XORcc (R321) -/
  | xorcc (rd rs1 : RegNum) (src2 : Operand2)
  /-- SUBcc (R309) -/
  | subcc (rd rs1 : RegNum) (src2 : Operand2)
  /-- ANDNcc (R315) -/
  | andncc (rd rs1 : RegNum) (src2 : Operand2)
  /-- ORNcc (R319) -/
  | orncc (rd rs1 : RegNum) (src2 : Operand2)
  /-- XNORcc (R323) -/
  | xnorcc (rd rs1 : RegNum) (src2 : Operand2)
  /-- ADDXcc (R306) -/
  | addxcc (rd rs1 : RegNum) (src2 : Operand2)
  /-- SUBXcc (R311) -/
  | subxcc (rd rs1 : RegNum) (src2 : Operand2)
  /-- TADDcc (R325) -/
  | taddcc (rd rs1 : RegNum) (src2 : Operand2)
  /-- TSUBcc (R326) -/
  | tsubcc (rd rs1 : RegNum) (src2 : Operand2)
  /-- TADDccTV (R327) -/
  | taddcctv (rd rs1 : RegNum) (src2 : Operand2)
  /-- TSUBccTV (R328) -/
  | tsubcctv (rd rs1 : RegNum) (src2 : Operand2)
  /-- MULScc (R330) -/
  | mulscc (rd rs1 : RegNum) (src2 : Operand2)
  /-- SLL (R336) -/
  | sll (rd rs1 : RegNum) (src2 : Operand2)
  /-- SRL (R337) -/
  | srl (rd rs1 : RegNum) (src2 : Operand2)
  /-- SRA (R338) -/
  | sra (rd rs1 : RegNum) (src2 : Operand2)
  /-- RDY (R403) -/
  | rdy (rd rs1 : RegNum) (low : BitVec 14)
  /-- RDPSR (R404) -/
  | rdpsr (rd rs1 : RegNum) (low : BitVec 14)
  /-- RDWIM (R405) -/
  | rdwim (rd rs1 : RegNum) (low : BitVec 14)
  /-- RDTBR (R406) -/
  | rdtbr (rd rs1 : RegNum) (low : BitVec 14)
  /-- WRY (R407) -/
  | wry (rd rs1 : RegNum) (src2 : Operand2)
  /-- WRPSR (R408) -/
  | wrpsr (rd rs1 : RegNum) (src2 : Operand2)
  /-- WRWIM (R409) -/
  | wrwim (rd rs1 : RegNum) (src2 : Operand2)
  /-- WRTBR (R410) -/
  | wrtbr (rd rs1 : RegNum) (src2 : Operand2)
  /-- FMOVs (R440) -/
  | fmovs (rd rs1 rs2 : RegNum)
  /-- FNEGs (R441) -/
  | fnegs (rd rs1 rs2 : RegNum)
  /-- FABSs (R442) -/
  | fabss (rd rs1 rs2 : RegNum)
  /-- FSQRTs (R443) -/
  | fsqrts (rd rs1 rs2 : RegNum)
  /-- FSQRTd (R444) -/
  | fsqrtd (rd rs1 rs2 : RegNum)
  /-- FSQRTx (R445) -/
  | fsqrtx (rd rs1 rs2 : RegNum)
  /-- FADDs (R446) -/
  | fadds (rd rs1 rs2 : RegNum)
  /-- FADDd (R447) -/
  | faddd (rd rs1 rs2 : RegNum)
  /-- FADDx (R448) -/
  | faddx (rd rs1 rs2 : RegNum)
  /-- FSUBs (R449) -/
  | fsubs (rd rs1 rs2 : RegNum)
  /-- FSUBd (R450) -/
  | fsubd (rd rs1 rs2 : RegNum)
  /-- FSUBx (R451) -/
  | fsubx (rd rs1 rs2 : RegNum)
  /-- FMULs (R452) -/
  | fmuls (rd rs1 rs2 : RegNum)
  /-- FMULd (R453) -/
  | fmuld (rd rs1 rs2 : RegNum)
  /-- FMULx (R454) -/
  | fmulx (rd rs1 rs2 : RegNum)
  /-- FDIVs (R455) -/
  | fdivs (rd rs1 rs2 : RegNum)
  /-- FDIVd (R456) -/
  | fdivd (rd rs1 rs2 : RegNum)
  /-- FDIVx (R457) -/
  | fdivx (rd rs1 rs2 : RegNum)
  /-- FiTOs (R458) -/
  | fitos (rd rs1 rs2 : RegNum)
  /-- FiTOd (R459) -/
  | fitod (rd rs1 rs2 : RegNum)
  /-- FiTOx (R460) -/
  | fitox (rd rs1 rs2 : RegNum)
  /-- FsTOi (R461) -/
  | fstoi (rd rs1 rs2 : RegNum)
  /-- FdTOi (R462) -/
  | fdtoi (rd rs1 rs2 : RegNum)
  /-- FxTOi (R463) -/
  | fxtoi (rd rs1 rs2 : RegNum)
  /-- FsTOd (R464) -/
  | fstod (rd rs1 rs2 : RegNum)
  /-- FsTOx (R465) -/
  | fstox (rd rs1 rs2 : RegNum)
  /-- FdTOs (R466) -/
  | fdtos (rd rs1 rs2 : RegNum)
  /-- FdTOx (R467) -/
  | fdtox (rd rs1 rs2 : RegNum)
  /-- FxTOs (R468) -/
  | fxtos (rd rs1 rs2 : RegNum)
  /-- FxTOd (R469) -/
  | fxtod (rd rs1 rs2 : RegNum)
  /-- FCMPs (R471) -/
  | fcmps (rd rs1 rs2 : RegNum)
  /-- FCMPd (R472) -/
  | fcmpd (rd rs1 rs2 : RegNum)
  /-- FCMPx (R473) -/
  | fcmpx (rd rs1 rs2 : RegNum)
  /-- FCMPEs (R474) -/
  | fcmpes (rd rs1 rs2 : RegNum)
  /-- FCMPEd (R475) -/
  | fcmped (rd rs1 rs2 : RegNum)
  /-- FCMPEx (R476) -/
  | fcmpex (rd rs1 rs2 : RegNum)
  /-- CPop1 (R481) -/
  | cpop1 (opc : BitVec 9) (rd rs1 rs2 : RegNum)
  /-- CPop2 (R482) -/
  | cpop2 (opc : BitVec 9) (rd rs1 rs2 : RegNum)
  /-- JMPL (R382) -/
  | jmpl (rd rs1 : RegNum) (src2 : Operand2)
  /-- RETT (R384) -/
  | rett (rd rs1 : RegNum) (src2 : Operand2)
  /-- TN (R390) -/
  | tn (ign : Bool) (rs1 : RegNum) (src2 : Operand2)
  /-- TE (R390) -/
  | te (ign : Bool) (rs1 : RegNum) (src2 : Operand2)
  /-- TLE (R390) -/
  | tle (ign : Bool) (rs1 : RegNum) (src2 : Operand2)
  /-- TL (R390) -/
  | tl (ign : Bool) (rs1 : RegNum) (src2 : Operand2)
  /-- TLEU (R390) -/
  | tleu (ign : Bool) (rs1 : RegNum) (src2 : Operand2)
  /-- TCS (R390) -/
  | tcs (ign : Bool) (rs1 : RegNum) (src2 : Operand2)
  /-- TNEG (R390) -/
  | tneg (ign : Bool) (rs1 : RegNum) (src2 : Operand2)
  /-- TVS (R390) -/
  | tvs (ign : Bool) (rs1 : RegNum) (src2 : Operand2)
  /-- TA (R390) -/
  | ta (ign : Bool) (rs1 : RegNum) (src2 : Operand2)
  /-- TNE (R390) -/
  | tne (ign : Bool) (rs1 : RegNum) (src2 : Operand2)
  /-- TG (R390) -/
  | tg (ign : Bool) (rs1 : RegNum) (src2 : Operand2)
  /-- TGE (R390) -/
  | tge (ign : Bool) (rs1 : RegNum) (src2 : Operand2)
  /-- TGU (R390) -/
  | tgu (ign : Bool) (rs1 : RegNum) (src2 : Operand2)
  /-- TCC (R390) -/
  | tcc (ign : Bool) (rs1 : RegNum) (src2 : Operand2)
  /-- TPOS (R390) -/
  | tpos (ign : Bool) (rs1 : RegNum) (src2 : Operand2)
  /-- TVC (R390) -/
  | tvc (ign : Bool) (rs1 : RegNum) (src2 : Operand2)
  /-- IFLUSH (R411) -/
  | iflush (rd rs1 : RegNum) (src2 : Operand2)
  /-- SAVE (R345) -/
  | save (rd rs1 : RegNum) (src2 : Operand2)
  /-- RESTORE (R346) -/
  | restore (rd rs1 : RegNum) (src2 : Operand2)
  /-- LD (R214) -/
  | ld (rd rs1 : RegNum) (src2 : Operand2)
  /-- LDUB (R212) -/
  | ldub (rd rs1 : RegNum) (src2 : Operand2)
  /-- LDUH (R213) -/
  | lduh (rd rs1 : RegNum) (src2 : Operand2)
  /-- LDD (R215) -/
  | ldd (rd rs1 : RegNum) (src2 : Operand2)
  /-- ST (R227) -/
  | st (rd rs1 : RegNum) (src2 : Operand2)
  /-- STB (R225) -/
  | stb (rd rs1 : RegNum) (src2 : Operand2)
  /-- STH (R226) -/
  | sth (rd rs1 : RegNum) (src2 : Operand2)
  /-- STD (R228) -/
  | std (rd rs1 : RegNum) (src2 : Operand2)
  /-- LDSB (R210) -/
  | ldsb (rd rs1 : RegNum) (src2 : Operand2)
  /-- LDSH (R211) -/
  | ldsh (rd rs1 : RegNum) (src2 : Operand2)
  /-- LDSTUB (R235) -/
  | ldstub (rd rs1 : RegNum) (src2 : Operand2)
  /-- SWAP (R237) -/
  | swap (rd rs1 : RegNum) (src2 : Operand2)
  /-- LDA (R220) -/
  | lda (rd rs1 : RegNum) (src2 : Operand2)
  /-- LDUBA (R218) -/
  | lduba (rd rs1 : RegNum) (src2 : Operand2)
  /-- LDUHA (R219) -/
  | lduha (rd rs1 : RegNum) (src2 : Operand2)
  /-- LDDA (R221) -/
  | ldda (rd rs1 : RegNum) (src2 : Operand2)
  /-- STA (R231) -/
  | sta (rd rs1 : RegNum) (src2 : Operand2)
  /-- STBA (R229) -/
  | stba (rd rs1 : RegNum) (src2 : Operand2)
  /-- STHA (R230) -/
  | stha (rd rs1 : RegNum) (src2 : Operand2)
  /-- STDA (R232) -/
  | stda (rd rs1 : RegNum) (src2 : Operand2)
  /-- LDSBA (R216) -/
  | ldsba (rd rs1 : RegNum) (src2 : Operand2)
  /-- LDSHA (R217) -/
  | ldsha (rd rs1 : RegNum) (src2 : Operand2)
  /-- LDSTUBA (R236) -/
  | ldstuba (rd rs1 : RegNum) (src2 : Operand2)
  /-- SWAPA (R238) -/
  | swapa (rd rs1 : RegNum) (src2 : Operand2)
  /-- LDF (R261) -/
  | ldf (rd rs1 : RegNum) (src2 : Operand2)
  /-- LDFSR (R262) -/
  | ldfsr (rd rs1 : RegNum) (src2 : Operand2)
  /-- LDDF (R263) -/
  | lddf (rd rs1 : RegNum) (src2 : Operand2)
  /-- STF (R264) -/
  | stf (rd rs1 : RegNum) (src2 : Operand2)
  /-- STFSR (R266) -/
  | stfsr (rd rs1 : RegNum) (src2 : Operand2)
  /-- STDFQ (R267) -/
  | stdfq (rd rs1 : RegNum) (src2 : Operand2)
  /-- STDF (R265) -/
  | stdf (rd rs1 : RegNum) (src2 : Operand2)
  /-- LDC (R271) -/
  | ldc (rd rs1 : RegNum) (src2 : Operand2)
  /-- LDCSR (R272) -/
  | ldcsr (rd rs1 : RegNum) (src2 : Operand2)
  /-- LDDC (R273) -/
  | lddc (rd rs1 : RegNum) (src2 : Operand2)
  /-- STC (R274) -/
  | stc (rd rs1 : RegNum) (src2 : Operand2)
  /-- STCSR (R276) -/
  | stcsr (rd rs1 : RegNum) (src2 : Operand2)
  /-- STDCQ (R277) -/
  | stdcq (rd rs1 : RegNum) (src2 : Operand2)
  /-- STDC (R275) -/
  | stdc (rd rs1 : RegNum) (src2 : Operand2)
  deriving DecidableEq, Repr

end Sys2Proof
end

