-- ==== Sys2Proof/WellFormed.lean ====
section
/-! DEFINITION. The static check of an instruction. The field widths are types; what is left is the
register pairs: a doubleword integer, f or c operand names an even register (`40_load_store_integer.md`
R203, `41_load_store_fp_cp.md` R269, R273), and so does an extended operand (`45_fpop_cpop.md` R431),
whose three registers must also exist (log 18). An instruction that fails the check has an encoding
but no effect in the spec (`UNDEFINED`). -/

namespace Sys2Proof

/-- An even register number: it names a pair. -/
def evenReg (r : RegNum) : Bool := r.toNat % 2 = 0

/-- An even register number r with r + 2 a register: it names an extended operand. -/
def extendedReg (r : RegNum) : Bool := r.toNat % 2 = 0 && r.toNat + 2 < 32

/-- The register operands name what the instruction's format needs. -/
def Instr.wellFormed : Instr → Bool
  | .call _ => true
  | .unimp _ _ => true
  | .sethi _ _ => true
  | .bn _ _ => true
  | .be _ _ => true
  | .ble _ _ => true
  | .bl _ _ => true
  | .bleu _ _ => true
  | .bcs _ _ => true
  | .bneg _ _ => true
  | .bvs _ _ => true
  | .ba _ _ => true
  | .bne _ _ => true
  | .bg _ _ => true
  | .bge _ _ => true
  | .bgu _ _ => true
  | .bcc _ _ => true
  | .bpos _ _ => true
  | .bvc _ _ => true
  | .fbn _ _ => true
  | .fbne _ _ => true
  | .fblg _ _ => true
  | .fbul _ _ => true
  | .fbl _ _ => true
  | .fbug _ _ => true
  | .fbg _ _ => true
  | .fbu _ _ => true
  | .fba _ _ => true
  | .fbe _ _ => true
  | .fbue _ _ => true
  | .fbge _ _ => true
  | .fbuge _ _ => true
  | .fble _ _ => true
  | .fbule _ _ => true
  | .fbo _ _ => true
  | .cbn _ _ => true
  | .cb123 _ _ => true
  | .cb12 _ _ => true
  | .cb13 _ _ => true
  | .cb1 _ _ => true
  | .cb23 _ _ => true
  | .cb2 _ _ => true
  | .cb3 _ _ => true
  | .cba _ _ => true
  | .cb0 _ _ => true
  | .cb03 _ _ => true
  | .cb02 _ _ => true
  | .cb023 _ _ => true
  | .cb01 _ _ => true
  | .cb013 _ _ => true
  | .cb012 _ _ => true
  | .add _ _ _ => true
  | .and _ _ _ => true
  | .or _ _ _ => true
  | .xor _ _ _ => true
  | .sub _ _ _ => true
  | .andn _ _ _ => true
  | .orn _ _ _ => true
  | .xnor _ _ _ => true
  | .addx _ _ _ => true
  | .subx _ _ _ => true
  | .addcc _ _ _ => true
  | .andcc _ _ _ => true
  | .orcc _ _ _ => true
  | .xorcc _ _ _ => true
  | .subcc _ _ _ => true
  | .andncc _ _ _ => true
  | .orncc _ _ _ => true
  | .xnorcc _ _ _ => true
  | .addxcc _ _ _ => true
  | .subxcc _ _ _ => true
  | .taddcc _ _ _ => true
  | .tsubcc _ _ _ => true
  | .taddcctv _ _ _ => true
  | .tsubcctv _ _ _ => true
  | .mulscc _ _ _ => true
  | .sll _ _ _ => true
  | .srl _ _ _ => true
  | .sra _ _ _ => true
  | .rdy _ _ _ => true
  | .rdpsr _ _ _ => true
  | .rdwim _ _ _ => true
  | .rdtbr _ _ _ => true
  | .wry _ _ _ => true
  | .wrpsr _ _ _ => true
  | .wrwim _ _ _ => true
  | .wrtbr _ _ _ => true
  | .fmovs _ _ _ => true
  | .fnegs _ _ _ => true
  | .fabss _ _ _ => true
  | .fsqrts _ _ _ => true
  | .fsqrtd rd _ rs2 => evenReg rd && evenReg rs2
  | .fsqrtx rd _ rs2 => extendedReg rd && extendedReg rs2
  | .fadds _ _ _ => true
  | .faddd rd rs1 rs2 => evenReg rd && evenReg rs1 && evenReg rs2
  | .faddx rd rs1 rs2 => extendedReg rd && extendedReg rs1 && extendedReg rs2
  | .fsubs _ _ _ => true
  | .fsubd rd rs1 rs2 => evenReg rd && evenReg rs1 && evenReg rs2
  | .fsubx rd rs1 rs2 => extendedReg rd && extendedReg rs1 && extendedReg rs2
  | .fmuls _ _ _ => true
  | .fmuld rd rs1 rs2 => evenReg rd && evenReg rs1 && evenReg rs2
  | .fmulx rd rs1 rs2 => extendedReg rd && extendedReg rs1 && extendedReg rs2
  | .fdivs _ _ _ => true
  | .fdivd rd rs1 rs2 => evenReg rd && evenReg rs1 && evenReg rs2
  | .fdivx rd rs1 rs2 => extendedReg rd && extendedReg rs1 && extendedReg rs2
  | .fitos _ _ _ => true
  | .fitod rd _ _ => evenReg rd
  | .fitox rd _ _ => extendedReg rd
  | .fstoi _ _ _ => true
  | .fdtoi _ _ rs2 => evenReg rs2
  | .fxtoi _ _ rs2 => extendedReg rs2
  | .fstod rd _ _ => evenReg rd
  | .fstox rd _ _ => extendedReg rd
  | .fdtos _ _ rs2 => evenReg rs2
  | .fdtox rd _ rs2 => extendedReg rd && evenReg rs2
  | .fxtos _ _ rs2 => extendedReg rs2
  | .fxtod rd _ rs2 => evenReg rd && extendedReg rs2
  | .fcmps _ _ _ => true
  | .fcmpd _ rs1 rs2 => evenReg rs1 && evenReg rs2
  | .fcmpx _ rs1 rs2 => extendedReg rs1 && extendedReg rs2
  | .fcmpes _ _ _ => true
  | .fcmped _ rs1 rs2 => evenReg rs1 && evenReg rs2
  | .fcmpex _ rs1 rs2 => extendedReg rs1 && extendedReg rs2
  | .cpop1 _ _ _ _ => true
  | .cpop2 _ _ _ _ => true
  | .jmpl _ _ _ => true
  | .rett _ _ _ => true
  | .tn _ _ _ => true
  | .te _ _ _ => true
  | .tle _ _ _ => true
  | .tl _ _ _ => true
  | .tleu _ _ _ => true
  | .tcs _ _ _ => true
  | .tneg _ _ _ => true
  | .tvs _ _ _ => true
  | .ta _ _ _ => true
  | .tne _ _ _ => true
  | .tg _ _ _ => true
  | .tge _ _ _ => true
  | .tgu _ _ _ => true
  | .tcc _ _ _ => true
  | .tpos _ _ _ => true
  | .tvc _ _ _ => true
  | .iflush _ _ _ => true
  | .save _ _ _ => true
  | .restore _ _ _ => true
  | .ld _ _ _ => true
  | .ldub _ _ _ => true
  | .lduh _ _ _ => true
  | .ldd rd _ _ => evenReg rd
  | .st _ _ _ => true
  | .stb _ _ _ => true
  | .sth _ _ _ => true
  | .std rd _ _ => evenReg rd
  | .ldsb _ _ _ => true
  | .ldsh _ _ _ => true
  | .ldstub _ _ _ => true
  | .swap _ _ _ => true
  | .lda _ _ _ => true
  | .lduba _ _ _ => true
  | .lduha _ _ _ => true
  | .ldda rd _ _ => evenReg rd
  | .sta _ _ _ => true
  | .stba _ _ _ => true
  | .stha _ _ _ => true
  | .stda rd _ _ => evenReg rd
  | .ldsba _ _ _ => true
  | .ldsha _ _ _ => true
  | .ldstuba _ _ _ => true
  | .swapa _ _ _ => true
  | .ldf _ _ _ => true
  | .ldfsr _ _ _ => true
  | .lddf rd _ _ => evenReg rd
  | .stf _ _ _ => true
  | .stfsr _ _ _ => true
  | .stdfq _ _ _ => true
  | .stdf rd _ _ => evenReg rd
  | .ldc _ _ _ => true
  | .ldcsr _ _ _ => true
  | .lddc rd _ _ => evenReg rd
  | .stc _ _ _ => true
  | .stcsr _ _ _ => true
  | .stdcq _ _ _ => true
  | .stdc rd _ _ => evenReg rd

end Sys2Proof
end

