-- ==== Sys2Proof/Decode.lean ====
section
/-! DEFINITION. The decoder and the encoder (`30_encoding.md` R130 to R157). Both keep the ignored
fields (R173), so a decoded word can be rebuilt from its instruction. -/

namespace Sys2Proof

/-- Why a word is no instruction of the opcode table. -/
inductive Reject where
  /-- fewer than four bytes were given (R130) -/
  | truncated
  /-- op = 00 with an op2 of no instruction (R151): the IU traps `illegal_instruction` (R170) -/
  | unassignedOp2 (op2 : BitVec 3)
  /-- op = 10 or 11 with an op3 of no instruction (R152, R153): `illegal_instruction` (R170) -/
  | unassignedOp3 (op : BitVec 2) (op3 : BitVec 6)
  /-- an FPop1 or FPop2 with an opf of no instruction (R154, R155): an unimplemented FPop (R172) -/
  | unassignedOpf (op3 : BitVec 6) (opf : BitVec 9)
  deriving DecidableEq, Repr

/-! ## Fields of a word (R131 to R134) -/

/-- op, bits 31:30. -/
def opOf (w : Word) : BitVec 2 := w.extractLsb' 30 2
/-- rd, bits 29:25; for a branch or Ticc bit 29 and cond. -/
def rdOf (w : Word) : RegNum := w.extractLsb' 25 5
/-- The annul bit of a branch, the ignored bit of a Ticc: bit 29. -/
def bit29Of (w : Word) : Bool := w.getLsbD 29
/-- cond, bits 28:25. -/
def condOf (w : Word) : BitVec 4 := w.extractLsb' 25 4
/-- op2, bits 24:22. -/
def op2Of (w : Word) : BitVec 3 := w.extractLsb' 22 3
/-- imm22, disp22 or const22, bits 21:0. -/
def imm22Of (w : Word) : BitVec 22 := w.extractLsb' 0 22
/-- disp30, bits 29:0. -/
def disp30Of (w : Word) : BitVec 30 := w.extractLsb' 0 30
/-- op3, bits 24:19. -/
def op3Of (w : Word) : BitVec 6 := w.extractLsb' 19 6
/-- rs1, bits 18:14. -/
def rs1Of (w : Word) : RegNum := w.extractLsb' 14 5
/-- Bits 13:0 of a Format 3 word. -/
def low14Of (w : Word) : BitVec 14 := w.extractLsb' 0 14
/-- opf or opc, bits 13:5. -/
def opfOf (w : Word) : BitVec 9 := w.extractLsb' 5 9
/-- rs2, bits 4:0. -/
def rs2Of (w : Word) : RegNum := w.extractLsb' 0 5

/-- Bits 13:0 read as a second operand: i, then simm13 or the asi field and rs2 (R133, R141). -/
def operand2Of (low : BitVec 14) : Operand2 :=
  if low.getLsbD 13 then .imm (low.extractLsb' 0 13) else .reg (low.extractLsb' 5 8) (low.extractLsb' 0 5)

/-! ## Decoding (R157) -/

/-- The Bicc family by cond (R361). -/
def decodeBicc (w : Word) : Instr :=
  match (condOf w).toNat with
  | 0 => .bn (bit29Of w) (imm22Of w)
  | 1 => .be (bit29Of w) (imm22Of w)
  | 2 => .ble (bit29Of w) (imm22Of w)
  | 3 => .bl (bit29Of w) (imm22Of w)
  | 4 => .bleu (bit29Of w) (imm22Of w)
  | 5 => .bcs (bit29Of w) (imm22Of w)
  | 6 => .bneg (bit29Of w) (imm22Of w)
  | 7 => .bvs (bit29Of w) (imm22Of w)
  | 8 => .ba (bit29Of w) (imm22Of w)
  | 9 => .bne (bit29Of w) (imm22Of w)
  | 10 => .bg (bit29Of w) (imm22Of w)
  | 11 => .bge (bit29Of w) (imm22Of w)
  | 12 => .bgu (bit29Of w) (imm22Of w)
  | 13 => .bcc (bit29Of w) (imm22Of w)
  | 14 => .bpos (bit29Of w) (imm22Of w)
  | _ => .bvc (bit29Of w) (imm22Of w)

/-- The FBfcc family by cond (R371). -/
def decodeFbfcc (w : Word) : Instr :=
  match (condOf w).toNat with
  | 0 => .fbn (bit29Of w) (imm22Of w)
  | 1 => .fbne (bit29Of w) (imm22Of w)
  | 2 => .fblg (bit29Of w) (imm22Of w)
  | 3 => .fbul (bit29Of w) (imm22Of w)
  | 4 => .fbl (bit29Of w) (imm22Of w)
  | 5 => .fbug (bit29Of w) (imm22Of w)
  | 6 => .fbg (bit29Of w) (imm22Of w)
  | 7 => .fbu (bit29Of w) (imm22Of w)
  | 8 => .fba (bit29Of w) (imm22Of w)
  | 9 => .fbe (bit29Of w) (imm22Of w)
  | 10 => .fbue (bit29Of w) (imm22Of w)
  | 11 => .fbge (bit29Of w) (imm22Of w)
  | 12 => .fbuge (bit29Of w) (imm22Of w)
  | 13 => .fble (bit29Of w) (imm22Of w)
  | 14 => .fbule (bit29Of w) (imm22Of w)
  | _ => .fbo (bit29Of w) (imm22Of w)

/-- The CBccc family by cond (R376). -/
def decodeCbccc (w : Word) : Instr :=
  match (condOf w).toNat with
  | 0 => .cbn (bit29Of w) (imm22Of w)
  | 1 => .cb123 (bit29Of w) (imm22Of w)
  | 2 => .cb12 (bit29Of w) (imm22Of w)
  | 3 => .cb13 (bit29Of w) (imm22Of w)
  | 4 => .cb1 (bit29Of w) (imm22Of w)
  | 5 => .cb23 (bit29Of w) (imm22Of w)
  | 6 => .cb2 (bit29Of w) (imm22Of w)
  | 7 => .cb3 (bit29Of w) (imm22Of w)
  | 8 => .cba (bit29Of w) (imm22Of w)
  | 9 => .cb0 (bit29Of w) (imm22Of w)
  | 10 => .cb03 (bit29Of w) (imm22Of w)
  | 11 => .cb02 (bit29Of w) (imm22Of w)
  | 12 => .cb023 (bit29Of w) (imm22Of w)
  | 13 => .cb01 (bit29Of w) (imm22Of w)
  | 14 => .cb013 (bit29Of w) (imm22Of w)
  | _ => .cb012 (bit29Of w) (imm22Of w)

/-- The Ticc family by cond (R361). -/
def decodeTicc (w : Word) : Instr :=
  match (condOf w).toNat with
  | 0 => .tn (bit29Of w) (rs1Of w) (operand2Of (low14Of w))
  | 1 => .te (bit29Of w) (rs1Of w) (operand2Of (low14Of w))
  | 2 => .tle (bit29Of w) (rs1Of w) (operand2Of (low14Of w))
  | 3 => .tl (bit29Of w) (rs1Of w) (operand2Of (low14Of w))
  | 4 => .tleu (bit29Of w) (rs1Of w) (operand2Of (low14Of w))
  | 5 => .tcs (bit29Of w) (rs1Of w) (operand2Of (low14Of w))
  | 6 => .tneg (bit29Of w) (rs1Of w) (operand2Of (low14Of w))
  | 7 => .tvs (bit29Of w) (rs1Of w) (operand2Of (low14Of w))
  | 8 => .ta (bit29Of w) (rs1Of w) (operand2Of (low14Of w))
  | 9 => .tne (bit29Of w) (rs1Of w) (operand2Of (low14Of w))
  | 10 => .tg (bit29Of w) (rs1Of w) (operand2Of (low14Of w))
  | 11 => .tge (bit29Of w) (rs1Of w) (operand2Of (low14Of w))
  | 12 => .tgu (bit29Of w) (rs1Of w) (operand2Of (low14Of w))
  | 13 => .tcc (bit29Of w) (rs1Of w) (operand2Of (low14Of w))
  | 14 => .tpos (bit29Of w) (rs1Of w) (operand2Of (low14Of w))
  | _ => .tvc (bit29Of w) (rs1Of w) (operand2Of (low14Of w))

/-- op = 00, by op2 (R151). -/
def decodeFormat2 (w : Word) : Except Reject Instr :=
  match (op2Of w).toNat with
  | 0 => .ok (.unimp (rdOf w) (imm22Of w))
  | 2 => .ok (decodeBicc w)
  | 4 => .ok (.sethi (rdOf w) (imm22Of w))
  | 6 => .ok (decodeFbfcc w)
  | 7 => .ok (decodeCbccc w)
  | _ => .error (.unassignedOp2 (op2Of w))

/-- FPop1, by opf (R154). -/
def decodeFpop1 (w : Word) : Except Reject Instr :=
  match (opfOf w).toNat with
  | 0x001 => .ok (.fmovs (rdOf w) (rs1Of w) (rs2Of w))
  | 0x005 => .ok (.fnegs (rdOf w) (rs1Of w) (rs2Of w))
  | 0x009 => .ok (.fabss (rdOf w) (rs1Of w) (rs2Of w))
  | 0x029 => .ok (.fsqrts (rdOf w) (rs1Of w) (rs2Of w))
  | 0x02A => .ok (.fsqrtd (rdOf w) (rs1Of w) (rs2Of w))
  | 0x02B => .ok (.fsqrtx (rdOf w) (rs1Of w) (rs2Of w))
  | 0x041 => .ok (.fadds (rdOf w) (rs1Of w) (rs2Of w))
  | 0x042 => .ok (.faddd (rdOf w) (rs1Of w) (rs2Of w))
  | 0x043 => .ok (.faddx (rdOf w) (rs1Of w) (rs2Of w))
  | 0x045 => .ok (.fsubs (rdOf w) (rs1Of w) (rs2Of w))
  | 0x046 => .ok (.fsubd (rdOf w) (rs1Of w) (rs2Of w))
  | 0x047 => .ok (.fsubx (rdOf w) (rs1Of w) (rs2Of w))
  | 0x049 => .ok (.fmuls (rdOf w) (rs1Of w) (rs2Of w))
  | 0x04A => .ok (.fmuld (rdOf w) (rs1Of w) (rs2Of w))
  | 0x04B => .ok (.fmulx (rdOf w) (rs1Of w) (rs2Of w))
  | 0x04D => .ok (.fdivs (rdOf w) (rs1Of w) (rs2Of w))
  | 0x04E => .ok (.fdivd (rdOf w) (rs1Of w) (rs2Of w))
  | 0x04F => .ok (.fdivx (rdOf w) (rs1Of w) (rs2Of w))
  | 0x0C4 => .ok (.fitos (rdOf w) (rs1Of w) (rs2Of w))
  | 0x0C6 => .ok (.fdtos (rdOf w) (rs1Of w) (rs2Of w))
  | 0x0C7 => .ok (.fxtos (rdOf w) (rs1Of w) (rs2Of w))
  | 0x0C8 => .ok (.fitod (rdOf w) (rs1Of w) (rs2Of w))
  | 0x0C9 => .ok (.fstod (rdOf w) (rs1Of w) (rs2Of w))
  | 0x0CB => .ok (.fxtod (rdOf w) (rs1Of w) (rs2Of w))
  | 0x0CC => .ok (.fitox (rdOf w) (rs1Of w) (rs2Of w))
  | 0x0CD => .ok (.fstox (rdOf w) (rs1Of w) (rs2Of w))
  | 0x0CE => .ok (.fdtox (rdOf w) (rs1Of w) (rs2Of w))
  | 0x0D1 => .ok (.fstoi (rdOf w) (rs1Of w) (rs2Of w))
  | 0x0D2 => .ok (.fdtoi (rdOf w) (rs1Of w) (rs2Of w))
  | 0x0D3 => .ok (.fxtoi (rdOf w) (rs1Of w) (rs2Of w))
  | _ => .error (.unassignedOpf (op3Of w) (opfOf w))

/-- FPop2, by opf (R155). -/
def decodeFpop2 (w : Word) : Except Reject Instr :=
  match (opfOf w).toNat with
  | 0x051 => .ok (.fcmps (rdOf w) (rs1Of w) (rs2Of w))
  | 0x052 => .ok (.fcmpd (rdOf w) (rs1Of w) (rs2Of w))
  | 0x053 => .ok (.fcmpx (rdOf w) (rs1Of w) (rs2Of w))
  | 0x055 => .ok (.fcmpes (rdOf w) (rs1Of w) (rs2Of w))
  | 0x056 => .ok (.fcmped (rdOf w) (rs1Of w) (rs2Of w))
  | 0x057 => .ok (.fcmpex (rdOf w) (rs1Of w) (rs2Of w))
  | _ => .error (.unassignedOpf (op3Of w) (opfOf w))

/-- op = 10, by op3 (R152). -/
def decodeArith (w : Word) : Except Reject Instr :=
  match (op3Of w).toNat with
  | 0x00 => .ok (.add (rdOf w) (rs1Of w) (operand2Of (low14Of w)))
  | 0x01 => .ok (.and (rdOf w) (rs1Of w) (operand2Of (low14Of w)))
  | 0x02 => .ok (.or (rdOf w) (rs1Of w) (operand2Of (low14Of w)))
  | 0x03 => .ok (.xor (rdOf w) (rs1Of w) (operand2Of (low14Of w)))
  | 0x04 => .ok (.sub (rdOf w) (rs1Of w) (operand2Of (low14Of w)))
  | 0x05 => .ok (.andn (rdOf w) (rs1Of w) (operand2Of (low14Of w)))
  | 0x06 => .ok (.orn (rdOf w) (rs1Of w) (operand2Of (low14Of w)))
  | 0x07 => .ok (.xnor (rdOf w) (rs1Of w) (operand2Of (low14Of w)))
  | 0x08 => .ok (.addx (rdOf w) (rs1Of w) (operand2Of (low14Of w)))
  | 0x0C => .ok (.subx (rdOf w) (rs1Of w) (operand2Of (low14Of w)))
  | 0x10 => .ok (.addcc (rdOf w) (rs1Of w) (operand2Of (low14Of w)))
  | 0x11 => .ok (.andcc (rdOf w) (rs1Of w) (operand2Of (low14Of w)))
  | 0x12 => .ok (.orcc (rdOf w) (rs1Of w) (operand2Of (low14Of w)))
  | 0x13 => .ok (.xorcc (rdOf w) (rs1Of w) (operand2Of (low14Of w)))
  | 0x14 => .ok (.subcc (rdOf w) (rs1Of w) (operand2Of (low14Of w)))
  | 0x15 => .ok (.andncc (rdOf w) (rs1Of w) (operand2Of (low14Of w)))
  | 0x16 => .ok (.orncc (rdOf w) (rs1Of w) (operand2Of (low14Of w)))
  | 0x17 => .ok (.xnorcc (rdOf w) (rs1Of w) (operand2Of (low14Of w)))
  | 0x18 => .ok (.addxcc (rdOf w) (rs1Of w) (operand2Of (low14Of w)))
  | 0x1C => .ok (.subxcc (rdOf w) (rs1Of w) (operand2Of (low14Of w)))
  | 0x20 => .ok (.taddcc (rdOf w) (rs1Of w) (operand2Of (low14Of w)))
  | 0x21 => .ok (.tsubcc (rdOf w) (rs1Of w) (operand2Of (low14Of w)))
  | 0x22 => .ok (.taddcctv (rdOf w) (rs1Of w) (operand2Of (low14Of w)))
  | 0x23 => .ok (.tsubcctv (rdOf w) (rs1Of w) (operand2Of (low14Of w)))
  | 0x24 => .ok (.mulscc (rdOf w) (rs1Of w) (operand2Of (low14Of w)))
  | 0x25 => .ok (.sll (rdOf w) (rs1Of w) (operand2Of (low14Of w)))
  | 0x26 => .ok (.srl (rdOf w) (rs1Of w) (operand2Of (low14Of w)))
  | 0x27 => .ok (.sra (rdOf w) (rs1Of w) (operand2Of (low14Of w)))
  | 0x28 => .ok (.rdy (rdOf w) (rs1Of w) (low14Of w))
  | 0x29 => .ok (.rdpsr (rdOf w) (rs1Of w) (low14Of w))
  | 0x2A => .ok (.rdwim (rdOf w) (rs1Of w) (low14Of w))
  | 0x2B => .ok (.rdtbr (rdOf w) (rs1Of w) (low14Of w))
  | 0x30 => .ok (.wry (rdOf w) (rs1Of w) (operand2Of (low14Of w)))
  | 0x31 => .ok (.wrpsr (rdOf w) (rs1Of w) (operand2Of (low14Of w)))
  | 0x32 => .ok (.wrwim (rdOf w) (rs1Of w) (operand2Of (low14Of w)))
  | 0x33 => .ok (.wrtbr (rdOf w) (rs1Of w) (operand2Of (low14Of w)))
  | 0x34 => decodeFpop1 w
  | 0x35 => decodeFpop2 w
  | 0x36 => .ok (.cpop1 (opfOf w) (rdOf w) (rs1Of w) (rs2Of w))
  | 0x37 => .ok (.cpop2 (opfOf w) (rdOf w) (rs1Of w) (rs2Of w))
  | 0x38 => .ok (.jmpl (rdOf w) (rs1Of w) (operand2Of (low14Of w)))
  | 0x39 => .ok (.rett (rdOf w) (rs1Of w) (operand2Of (low14Of w)))
  | 0x3A => .ok (decodeTicc w)
  | 0x3B => .ok (.iflush (rdOf w) (rs1Of w) (operand2Of (low14Of w)))
  | 0x3C => .ok (.save (rdOf w) (rs1Of w) (operand2Of (low14Of w)))
  | 0x3D => .ok (.restore (rdOf w) (rs1Of w) (operand2Of (low14Of w)))
  | _ => .error (.unassignedOp3 (opOf w) (op3Of w))

/-- op = 11, by op3 (R153). -/
def decodeMemory (w : Word) : Except Reject Instr :=
  match (op3Of w).toNat with
  | 0x00 => .ok (.ld (rdOf w) (rs1Of w) (operand2Of (low14Of w)))
  | 0x01 => .ok (.ldub (rdOf w) (rs1Of w) (operand2Of (low14Of w)))
  | 0x02 => .ok (.lduh (rdOf w) (rs1Of w) (operand2Of (low14Of w)))
  | 0x03 => .ok (.ldd (rdOf w) (rs1Of w) (operand2Of (low14Of w)))
  | 0x04 => .ok (.st (rdOf w) (rs1Of w) (operand2Of (low14Of w)))
  | 0x05 => .ok (.stb (rdOf w) (rs1Of w) (operand2Of (low14Of w)))
  | 0x06 => .ok (.sth (rdOf w) (rs1Of w) (operand2Of (low14Of w)))
  | 0x07 => .ok (.std (rdOf w) (rs1Of w) (operand2Of (low14Of w)))
  | 0x09 => .ok (.ldsb (rdOf w) (rs1Of w) (operand2Of (low14Of w)))
  | 0x0A => .ok (.ldsh (rdOf w) (rs1Of w) (operand2Of (low14Of w)))
  | 0x0D => .ok (.ldstub (rdOf w) (rs1Of w) (operand2Of (low14Of w)))
  | 0x0F => .ok (.swap (rdOf w) (rs1Of w) (operand2Of (low14Of w)))
  | 0x10 => .ok (.lda (rdOf w) (rs1Of w) (operand2Of (low14Of w)))
  | 0x11 => .ok (.lduba (rdOf w) (rs1Of w) (operand2Of (low14Of w)))
  | 0x12 => .ok (.lduha (rdOf w) (rs1Of w) (operand2Of (low14Of w)))
  | 0x13 => .ok (.ldda (rdOf w) (rs1Of w) (operand2Of (low14Of w)))
  | 0x14 => .ok (.sta (rdOf w) (rs1Of w) (operand2Of (low14Of w)))
  | 0x15 => .ok (.stba (rdOf w) (rs1Of w) (operand2Of (low14Of w)))
  | 0x16 => .ok (.stha (rdOf w) (rs1Of w) (operand2Of (low14Of w)))
  | 0x17 => .ok (.stda (rdOf w) (rs1Of w) (operand2Of (low14Of w)))
  | 0x19 => .ok (.ldsba (rdOf w) (rs1Of w) (operand2Of (low14Of w)))
  | 0x1A => .ok (.ldsha (rdOf w) (rs1Of w) (operand2Of (low14Of w)))
  | 0x1D => .ok (.ldstuba (rdOf w) (rs1Of w) (operand2Of (low14Of w)))
  | 0x1F => .ok (.swapa (rdOf w) (rs1Of w) (operand2Of (low14Of w)))
  | 0x20 => .ok (.ldf (rdOf w) (rs1Of w) (operand2Of (low14Of w)))
  | 0x21 => .ok (.ldfsr (rdOf w) (rs1Of w) (operand2Of (low14Of w)))
  | 0x23 => .ok (.lddf (rdOf w) (rs1Of w) (operand2Of (low14Of w)))
  | 0x24 => .ok (.stf (rdOf w) (rs1Of w) (operand2Of (low14Of w)))
  | 0x25 => .ok (.stfsr (rdOf w) (rs1Of w) (operand2Of (low14Of w)))
  | 0x26 => .ok (.stdfq (rdOf w) (rs1Of w) (operand2Of (low14Of w)))
  | 0x27 => .ok (.stdf (rdOf w) (rs1Of w) (operand2Of (low14Of w)))
  | 0x30 => .ok (.ldc (rdOf w) (rs1Of w) (operand2Of (low14Of w)))
  | 0x31 => .ok (.ldcsr (rdOf w) (rs1Of w) (operand2Of (low14Of w)))
  | 0x33 => .ok (.lddc (rdOf w) (rs1Of w) (operand2Of (low14Of w)))
  | 0x34 => .ok (.stc (rdOf w) (rs1Of w) (operand2Of (low14Of w)))
  | 0x35 => .ok (.stcsr (rdOf w) (rs1Of w) (operand2Of (low14Of w)))
  | 0x36 => .ok (.stdcq (rdOf w) (rs1Of w) (operand2Of (low14Of w)))
  | 0x37 => .ok (.stdc (rdOf w) (rs1Of w) (operand2Of (low14Of w)))
  | _ => .error (.unassignedOp3 (opOf w) (op3Of w))

/-- The instruction a word stands for, or why there is none (R157, R170). -/
def decode (w : Word) : Except Reject Instr :=
  match (opOf w).toNat with
  | 0 => decodeFormat2 w
  | 1 => .ok (.call (disp30Of w))
  | 2 => decodeArith w
  | _ => decodeMemory w

/-- The word four bytes in memory make, the lowest address most significant (`20_memory.md` R93). -/
def wordOfBytes (b0 b1 b2 b3 : Byte) : Word := b0 ++ b1 ++ b2 ++ b3

/-- Decodes the instruction at the front of a list of bytes and returns the bytes after it (R130). -/
def decodeBytes : List Byte → Except Reject (Instr × List Byte)
  | b0 :: b1 :: b2 :: b3 :: rest => (decode (wordOfBytes b0 b1 b2 b3)).map fun i => (i, rest)
  | _ => .error .truncated

/-- The byte of a word at offset 0..3 from its address: bits 31:24 first (`20_memory.md` R93). -/
def byteOfWord (w : Word) (k : Nat) : Byte := w.extractLsb' (24 - 8 * k) 8

/-- The instruction the decoder reads from `nbits` bits `w` of an opcode-table row. The table numbers
the bits as the word does, so the word is `w` with the bits above `nbits` zero; its bytes are laid out
big-endian, as in memory. -/
def decodeTableWord (nbits w : Nat) : Option Instr :=
  let word : Word := BitVec.ofNat 32 (w % 2 ^ nbits)
  match decodeBytes [byteOfWord word 0, byteOfWord word 1, byteOfWord word 2, byteOfWord word 3] with
  | .ok (i, _) => some i
  | .error _ => none

/-! ## Encoding (R131 to R133) -/

/-- A Format 2 word: op = 00, bits 29:25, op2, bits 21:0 (R132). -/
def format2 (hi : BitVec 5) (op2 : BitVec 3) (imm : BitVec 22) : Word := 0#2 ++ hi ++ op2 ++ imm

/-- A branch word: op = 00, a, cond, op2, disp22 (R132). -/
def branchWord (a : Bool) (cond : BitVec 4) (op2 : BitVec 3) (disp22 : BitVec 22) : Word :=
  format2 (BitVec.ofBool a ++ cond) op2 disp22

/-- A Format 3 word: op, rd, op3, rs1, bits 13:0 (R133). -/
def format3 (op : BitVec 2) (rd : BitVec 5) (op3 : BitVec 6) (rs1 : RegNum) (low : BitVec 14) : Word :=
  op ++ rd ++ op3 ++ rs1 ++ low

/-- Bits 13:0 of a second operand. -/
def operand2Bits : Operand2 → BitVec 14
  | .reg asi rs2 => 0#1 ++ asi ++ rs2
  | .imm simm13 => 1#1 ++ simm13

/-- A Format 3 word with a second operand. -/
def format3Word (op : BitVec 2) (op3 : BitVec 6) (rd rs1 : RegNum) (src2 : Operand2) : Word :=
  format3 op rd op3 rs1 (operand2Bits src2)

/-- An FPop or CPop word: op = 10, rd, op3, rs1, opf or opc, rs2 (R133). -/
def operateWord (op3 : BitVec 6) (opf : BitVec 9) (rd rs1 rs2 : RegNum) : Word :=
  format3 2#2 rd op3 rs1 (opf ++ rs2)

/-- A Ticc word: op = 10, an ignored bit, cond, op3 = 0x3A, rs1, operand2 (R133). -/
def ticcWord (ign : Bool) (cond : BitVec 4) (rs1 : RegNum) (src2 : Operand2) : Word :=
  format3 2#2 (BitVec.ofBool ign ++ cond) 0x3A#6 rs1 (operand2Bits src2)

/-- The word of an instruction. -/
def encode : Instr → Word
  | .call disp30 => 1#2 ++ disp30
  | .unimp rd const22 => format2 rd 0#3 const22
  | .sethi rd imm22 => format2 rd 4#3 imm22
  | .bn a disp22 => branchWord a 0#4 2#3 disp22
  | .be a disp22 => branchWord a 1#4 2#3 disp22
  | .ble a disp22 => branchWord a 2#4 2#3 disp22
  | .bl a disp22 => branchWord a 3#4 2#3 disp22
  | .bleu a disp22 => branchWord a 4#4 2#3 disp22
  | .bcs a disp22 => branchWord a 5#4 2#3 disp22
  | .bneg a disp22 => branchWord a 6#4 2#3 disp22
  | .bvs a disp22 => branchWord a 7#4 2#3 disp22
  | .ba a disp22 => branchWord a 8#4 2#3 disp22
  | .bne a disp22 => branchWord a 9#4 2#3 disp22
  | .bg a disp22 => branchWord a 10#4 2#3 disp22
  | .bge a disp22 => branchWord a 11#4 2#3 disp22
  | .bgu a disp22 => branchWord a 12#4 2#3 disp22
  | .bcc a disp22 => branchWord a 13#4 2#3 disp22
  | .bpos a disp22 => branchWord a 14#4 2#3 disp22
  | .bvc a disp22 => branchWord a 15#4 2#3 disp22
  | .fbn a disp22 => branchWord a 0#4 6#3 disp22
  | .fbne a disp22 => branchWord a 1#4 6#3 disp22
  | .fblg a disp22 => branchWord a 2#4 6#3 disp22
  | .fbul a disp22 => branchWord a 3#4 6#3 disp22
  | .fbl a disp22 => branchWord a 4#4 6#3 disp22
  | .fbug a disp22 => branchWord a 5#4 6#3 disp22
  | .fbg a disp22 => branchWord a 6#4 6#3 disp22
  | .fbu a disp22 => branchWord a 7#4 6#3 disp22
  | .fba a disp22 => branchWord a 8#4 6#3 disp22
  | .fbe a disp22 => branchWord a 9#4 6#3 disp22
  | .fbue a disp22 => branchWord a 10#4 6#3 disp22
  | .fbge a disp22 => branchWord a 11#4 6#3 disp22
  | .fbuge a disp22 => branchWord a 12#4 6#3 disp22
  | .fble a disp22 => branchWord a 13#4 6#3 disp22
  | .fbule a disp22 => branchWord a 14#4 6#3 disp22
  | .fbo a disp22 => branchWord a 15#4 6#3 disp22
  | .cbn a disp22 => branchWord a 0#4 7#3 disp22
  | .cb123 a disp22 => branchWord a 1#4 7#3 disp22
  | .cb12 a disp22 => branchWord a 2#4 7#3 disp22
  | .cb13 a disp22 => branchWord a 3#4 7#3 disp22
  | .cb1 a disp22 => branchWord a 4#4 7#3 disp22
  | .cb23 a disp22 => branchWord a 5#4 7#3 disp22
  | .cb2 a disp22 => branchWord a 6#4 7#3 disp22
  | .cb3 a disp22 => branchWord a 7#4 7#3 disp22
  | .cba a disp22 => branchWord a 8#4 7#3 disp22
  | .cb0 a disp22 => branchWord a 9#4 7#3 disp22
  | .cb03 a disp22 => branchWord a 10#4 7#3 disp22
  | .cb02 a disp22 => branchWord a 11#4 7#3 disp22
  | .cb023 a disp22 => branchWord a 12#4 7#3 disp22
  | .cb01 a disp22 => branchWord a 13#4 7#3 disp22
  | .cb013 a disp22 => branchWord a 14#4 7#3 disp22
  | .cb012 a disp22 => branchWord a 15#4 7#3 disp22
  | .add rd rs1 src2 => format3Word 2#2 0x00#6 rd rs1 src2
  | .and rd rs1 src2 => format3Word 2#2 0x01#6 rd rs1 src2
  | .or rd rs1 src2 => format3Word 2#2 0x02#6 rd rs1 src2
  | .xor rd rs1 src2 => format3Word 2#2 0x03#6 rd rs1 src2
  | .sub rd rs1 src2 => format3Word 2#2 0x04#6 rd rs1 src2
  | .andn rd rs1 src2 => format3Word 2#2 0x05#6 rd rs1 src2
  | .orn rd rs1 src2 => format3Word 2#2 0x06#6 rd rs1 src2
  | .xnor rd rs1 src2 => format3Word 2#2 0x07#6 rd rs1 src2
  | .addx rd rs1 src2 => format3Word 2#2 0x08#6 rd rs1 src2
  | .subx rd rs1 src2 => format3Word 2#2 0x0C#6 rd rs1 src2
  | .addcc rd rs1 src2 => format3Word 2#2 0x10#6 rd rs1 src2
  | .andcc rd rs1 src2 => format3Word 2#2 0x11#6 rd rs1 src2
  | .orcc rd rs1 src2 => format3Word 2#2 0x12#6 rd rs1 src2
  | .xorcc rd rs1 src2 => format3Word 2#2 0x13#6 rd rs1 src2
  | .subcc rd rs1 src2 => format3Word 2#2 0x14#6 rd rs1 src2
  | .andncc rd rs1 src2 => format3Word 2#2 0x15#6 rd rs1 src2
  | .orncc rd rs1 src2 => format3Word 2#2 0x16#6 rd rs1 src2
  | .xnorcc rd rs1 src2 => format3Word 2#2 0x17#6 rd rs1 src2
  | .addxcc rd rs1 src2 => format3Word 2#2 0x18#6 rd rs1 src2
  | .subxcc rd rs1 src2 => format3Word 2#2 0x1C#6 rd rs1 src2
  | .taddcc rd rs1 src2 => format3Word 2#2 0x20#6 rd rs1 src2
  | .tsubcc rd rs1 src2 => format3Word 2#2 0x21#6 rd rs1 src2
  | .taddcctv rd rs1 src2 => format3Word 2#2 0x22#6 rd rs1 src2
  | .tsubcctv rd rs1 src2 => format3Word 2#2 0x23#6 rd rs1 src2
  | .mulscc rd rs1 src2 => format3Word 2#2 0x24#6 rd rs1 src2
  | .sll rd rs1 src2 => format3Word 2#2 0x25#6 rd rs1 src2
  | .srl rd rs1 src2 => format3Word 2#2 0x26#6 rd rs1 src2
  | .sra rd rs1 src2 => format3Word 2#2 0x27#6 rd rs1 src2
  | .rdy rd rs1 low => format3 2#2 rd 0x28#6 rs1 low
  | .rdpsr rd rs1 low => format3 2#2 rd 0x29#6 rs1 low
  | .rdwim rd rs1 low => format3 2#2 rd 0x2A#6 rs1 low
  | .rdtbr rd rs1 low => format3 2#2 rd 0x2B#6 rs1 low
  | .wry rd rs1 src2 => format3Word 2#2 0x30#6 rd rs1 src2
  | .wrpsr rd rs1 src2 => format3Word 2#2 0x31#6 rd rs1 src2
  | .wrwim rd rs1 src2 => format3Word 2#2 0x32#6 rd rs1 src2
  | .wrtbr rd rs1 src2 => format3Word 2#2 0x33#6 rd rs1 src2
  | .fmovs rd rs1 rs2 => operateWord 0x34#6 0x001#9 rd rs1 rs2
  | .fnegs rd rs1 rs2 => operateWord 0x34#6 0x005#9 rd rs1 rs2
  | .fabss rd rs1 rs2 => operateWord 0x34#6 0x009#9 rd rs1 rs2
  | .fsqrts rd rs1 rs2 => operateWord 0x34#6 0x029#9 rd rs1 rs2
  | .fsqrtd rd rs1 rs2 => operateWord 0x34#6 0x02A#9 rd rs1 rs2
  | .fsqrtx rd rs1 rs2 => operateWord 0x34#6 0x02B#9 rd rs1 rs2
  | .fadds rd rs1 rs2 => operateWord 0x34#6 0x041#9 rd rs1 rs2
  | .faddd rd rs1 rs2 => operateWord 0x34#6 0x042#9 rd rs1 rs2
  | .faddx rd rs1 rs2 => operateWord 0x34#6 0x043#9 rd rs1 rs2
  | .fsubs rd rs1 rs2 => operateWord 0x34#6 0x045#9 rd rs1 rs2
  | .fsubd rd rs1 rs2 => operateWord 0x34#6 0x046#9 rd rs1 rs2
  | .fsubx rd rs1 rs2 => operateWord 0x34#6 0x047#9 rd rs1 rs2
  | .fmuls rd rs1 rs2 => operateWord 0x34#6 0x049#9 rd rs1 rs2
  | .fmuld rd rs1 rs2 => operateWord 0x34#6 0x04A#9 rd rs1 rs2
  | .fmulx rd rs1 rs2 => operateWord 0x34#6 0x04B#9 rd rs1 rs2
  | .fdivs rd rs1 rs2 => operateWord 0x34#6 0x04D#9 rd rs1 rs2
  | .fdivd rd rs1 rs2 => operateWord 0x34#6 0x04E#9 rd rs1 rs2
  | .fdivx rd rs1 rs2 => operateWord 0x34#6 0x04F#9 rd rs1 rs2
  | .fitos rd rs1 rs2 => operateWord 0x34#6 0x0C4#9 rd rs1 rs2
  | .fitod rd rs1 rs2 => operateWord 0x34#6 0x0C8#9 rd rs1 rs2
  | .fitox rd rs1 rs2 => operateWord 0x34#6 0x0CC#9 rd rs1 rs2
  | .fstoi rd rs1 rs2 => operateWord 0x34#6 0x0D1#9 rd rs1 rs2
  | .fdtoi rd rs1 rs2 => operateWord 0x34#6 0x0D2#9 rd rs1 rs2
  | .fxtoi rd rs1 rs2 => operateWord 0x34#6 0x0D3#9 rd rs1 rs2
  | .fstod rd rs1 rs2 => operateWord 0x34#6 0x0C9#9 rd rs1 rs2
  | .fstox rd rs1 rs2 => operateWord 0x34#6 0x0CD#9 rd rs1 rs2
  | .fdtos rd rs1 rs2 => operateWord 0x34#6 0x0C6#9 rd rs1 rs2
  | .fdtox rd rs1 rs2 => operateWord 0x34#6 0x0CE#9 rd rs1 rs2
  | .fxtos rd rs1 rs2 => operateWord 0x34#6 0x0C7#9 rd rs1 rs2
  | .fxtod rd rs1 rs2 => operateWord 0x34#6 0x0CB#9 rd rs1 rs2
  | .fcmps rd rs1 rs2 => operateWord 0x35#6 0x051#9 rd rs1 rs2
  | .fcmpd rd rs1 rs2 => operateWord 0x35#6 0x052#9 rd rs1 rs2
  | .fcmpx rd rs1 rs2 => operateWord 0x35#6 0x053#9 rd rs1 rs2
  | .fcmpes rd rs1 rs2 => operateWord 0x35#6 0x055#9 rd rs1 rs2
  | .fcmped rd rs1 rs2 => operateWord 0x35#6 0x056#9 rd rs1 rs2
  | .fcmpex rd rs1 rs2 => operateWord 0x35#6 0x057#9 rd rs1 rs2
  | .cpop1 opc rd rs1 rs2 => operateWord 0x36#6 opc rd rs1 rs2
  | .cpop2 opc rd rs1 rs2 => operateWord 0x37#6 opc rd rs1 rs2
  | .jmpl rd rs1 src2 => format3Word 2#2 0x38#6 rd rs1 src2
  | .rett rd rs1 src2 => format3Word 2#2 0x39#6 rd rs1 src2
  | .tn ign rs1 src2 => ticcWord ign 0#4 rs1 src2
  | .te ign rs1 src2 => ticcWord ign 1#4 rs1 src2
  | .tle ign rs1 src2 => ticcWord ign 2#4 rs1 src2
  | .tl ign rs1 src2 => ticcWord ign 3#4 rs1 src2
  | .tleu ign rs1 src2 => ticcWord ign 4#4 rs1 src2
  | .tcs ign rs1 src2 => ticcWord ign 5#4 rs1 src2
  | .tneg ign rs1 src2 => ticcWord ign 6#4 rs1 src2
  | .tvs ign rs1 src2 => ticcWord ign 7#4 rs1 src2
  | .ta ign rs1 src2 => ticcWord ign 8#4 rs1 src2
  | .tne ign rs1 src2 => ticcWord ign 9#4 rs1 src2
  | .tg ign rs1 src2 => ticcWord ign 10#4 rs1 src2
  | .tge ign rs1 src2 => ticcWord ign 11#4 rs1 src2
  | .tgu ign rs1 src2 => ticcWord ign 12#4 rs1 src2
  | .tcc ign rs1 src2 => ticcWord ign 13#4 rs1 src2
  | .tpos ign rs1 src2 => ticcWord ign 14#4 rs1 src2
  | .tvc ign rs1 src2 => ticcWord ign 15#4 rs1 src2
  | .iflush rd rs1 src2 => format3Word 2#2 0x3B#6 rd rs1 src2
  | .save rd rs1 src2 => format3Word 2#2 0x3C#6 rd rs1 src2
  | .restore rd rs1 src2 => format3Word 2#2 0x3D#6 rd rs1 src2
  | .ld rd rs1 src2 => format3Word 3#2 0x00#6 rd rs1 src2
  | .ldub rd rs1 src2 => format3Word 3#2 0x01#6 rd rs1 src2
  | .lduh rd rs1 src2 => format3Word 3#2 0x02#6 rd rs1 src2
  | .ldd rd rs1 src2 => format3Word 3#2 0x03#6 rd rs1 src2
  | .st rd rs1 src2 => format3Word 3#2 0x04#6 rd rs1 src2
  | .stb rd rs1 src2 => format3Word 3#2 0x05#6 rd rs1 src2
  | .sth rd rs1 src2 => format3Word 3#2 0x06#6 rd rs1 src2
  | .std rd rs1 src2 => format3Word 3#2 0x07#6 rd rs1 src2
  | .ldsb rd rs1 src2 => format3Word 3#2 0x09#6 rd rs1 src2
  | .ldsh rd rs1 src2 => format3Word 3#2 0x0A#6 rd rs1 src2
  | .ldstub rd rs1 src2 => format3Word 3#2 0x0D#6 rd rs1 src2
  | .swap rd rs1 src2 => format3Word 3#2 0x0F#6 rd rs1 src2
  | .lda rd rs1 src2 => format3Word 3#2 0x10#6 rd rs1 src2
  | .lduba rd rs1 src2 => format3Word 3#2 0x11#6 rd rs1 src2
  | .lduha rd rs1 src2 => format3Word 3#2 0x12#6 rd rs1 src2
  | .ldda rd rs1 src2 => format3Word 3#2 0x13#6 rd rs1 src2
  | .sta rd rs1 src2 => format3Word 3#2 0x14#6 rd rs1 src2
  | .stba rd rs1 src2 => format3Word 3#2 0x15#6 rd rs1 src2
  | .stha rd rs1 src2 => format3Word 3#2 0x16#6 rd rs1 src2
  | .stda rd rs1 src2 => format3Word 3#2 0x17#6 rd rs1 src2
  | .ldsba rd rs1 src2 => format3Word 3#2 0x19#6 rd rs1 src2
  | .ldsha rd rs1 src2 => format3Word 3#2 0x1A#6 rd rs1 src2
  | .ldstuba rd rs1 src2 => format3Word 3#2 0x1D#6 rd rs1 src2
  | .swapa rd rs1 src2 => format3Word 3#2 0x1F#6 rd rs1 src2
  | .ldf rd rs1 src2 => format3Word 3#2 0x20#6 rd rs1 src2
  | .ldfsr rd rs1 src2 => format3Word 3#2 0x21#6 rd rs1 src2
  | .lddf rd rs1 src2 => format3Word 3#2 0x23#6 rd rs1 src2
  | .stf rd rs1 src2 => format3Word 3#2 0x24#6 rd rs1 src2
  | .stfsr rd rs1 src2 => format3Word 3#2 0x25#6 rd rs1 src2
  | .stdfq rd rs1 src2 => format3Word 3#2 0x26#6 rd rs1 src2
  | .stdf rd rs1 src2 => format3Word 3#2 0x27#6 rd rs1 src2
  | .ldc rd rs1 src2 => format3Word 3#2 0x30#6 rd rs1 src2
  | .ldcsr rd rs1 src2 => format3Word 3#2 0x31#6 rd rs1 src2
  | .lddc rd rs1 src2 => format3Word 3#2 0x33#6 rd rs1 src2
  | .stc rd rs1 src2 => format3Word 3#2 0x34#6 rd rs1 src2
  | .stcsr rd rs1 src2 => format3Word 3#2 0x35#6 rd rs1 src2
  | .stdcq rd rs1 src2 => format3Word 3#2 0x36#6 rd rs1 src2
  | .stdc rd rs1 src2 => format3Word 3#2 0x37#6 rd rs1 src2

end Sys2Proof
end

