-- ==== Sys2Proof/Machine/Coprocessor.lean ====
section
/-! DEFINITION. The coprocessor's state as far as the IU's instructions name it (`10_state.md` R60),
and the entries of the two operate queues. What a CPop does to it is `Config`'s. -/

namespace Sys2Proof.Machine

/-- One entry of the floating-point or coprocessor queue: the address of an operate instruction and
its instruction word (`10_state.md` R58, R60). -/
structure QueueEntry where
  addr : Word
  instr : Word
  deriving DecidableEq, Repr, Inhabited

/-- The coprocessor's registers c[0]..c[31], its state register CSR, its queue CQ, the condition code
CCC<1:0> it drives to the IU, and whether it signals an exception (`10_state.md` R60,
`41_load_store_fp_cp.md` R270). -/
structure Coprocessor where
  c : Vector Word 32
  csr : Word
  cq : List QueueEntry
  ccc : BitVec 2
  exceptionPending : Bool
  deriving DecidableEq, Repr, Inhabited

end Sys2Proof.Machine
end

