-- ==== Sys2Proof/Config.lean ====
section
/-! DEFINITION. What an implementation fixes, and the free values. An opaque constant has no body:
nothing in Lean can prove a value of it, so whatever is proved holds for every value. Parameters with
a recommended value (units present, IFT, the address map, refused accesses) are data in
`State.platform` instead, so that statements quantify over them and a run can be evaluated. -/

namespace Sys2Proof.Config

open Sys2Proof.Machine

/-- NWINDOWS, the number of implemented register windows (`00_scope.md` R4). -/
def nWindows : Nat := 8

/-- PSR_IMPL and PSR_VER (`00_scope.md` R6, U27). Log 8. -/
opaque psrImpl : BitVec 4
@[inherit_doc psrImpl] opaque psrVer : BitVec 4

/-- FSR_VER (`00_scope.md` R6, U27). Log 8. -/
opaque fsrVer : BitVec 3

/-! ## Free values of the hazard windows, applied to the counter `State.draws` (log 9, 35) -/

/-- The one-bit free values: which field or choice a draw is for. -/
inductive FreeBit where
  /-- a PSR.icc flag read inside a window (`70_reset_and_hazards.md` R580) -/
  | iccN | iccZ | iccV | iccC
  /-- PSR.EC, EF, PS, ET read inside a window (R580) -/
  | ec | ef | ps | et
  /-- PSR.S as the privilege test and the data asi see it (R580) -/
  | supervisor
  /-- PSR.S as the fetch asi sees it (R580) -/
  | fetchSupervisor
  /-- ET, and whether the old PIL is used, in the interrupt acceptance test (R541, R580, U6) -/
  | acceptEt | acceptOldPil
  /-- whether a trap vector uses the old TBA (R582, U4) -/
  | vectorOldTba
  /-- whether the window entered is found invalid after a WRWIM (R581, U3) -/
  | windowInvalid
  deriving DecidableEq, Repr

/-- The 32-bit free values. -/
inductive FreeWord where
  /-- what RDPSR, RDWIM, RDTBR read inside the register's window (R580 to R582) -/
  | psr | wim | tbr
  /-- what RDY and MULScc use inside the window of Y (R583) -/
  | y
  /-- the doubleword STDFQ or STDCQ stores from an empty queue (U23) -/
  | fqAddr | fqInstr | cqAddr | cqInstr
  deriving DecidableEq, Repr

opaque freeBit : FreeBit → Nat → Bool
opaque freeWord : FreeWord → Nat → Word

/-- The window CWP is found to name inside the window of a WRPSR that changed it (R580). -/
opaque freeCwp : Nat → BitVec 3

/-- The condition code FBfcc, CBccc test directly after a unit's own instruction (R585, R586, U12, U13). -/
opaque freeFcc : Nat → BitVec 2
@[inherit_doc freeFcc] opaque freeCcc : Nat → BitVec 2

/-- How many instructions ahead (0..3) the IU fetched a word that a recent store changed
(`20_memory.md` R112, U24). Log 19. -/
opaque freeFetchAge : Nat → BitVec 2

/-- The cexc bits of the disabled exceptions an FPop raised beside a trapping one (U21). Log 27. -/
opaque freeCexc : Nat → BitVec 5

/-- What external reset leaves in a word-sized register whose value after reset is unspecified
(`10_state.md` R70, U26): the draw, and the register's slot. Log 21. -/
opaque resetWord : Nat → Nat → Word
@[inherit_doc resetWord] opaque resetCoprocessor : Nat → Coprocessor

/-! ## Floating point (`45_fpop_cpop.md` R437) -/

/-- NaNChoice: the bits of a NaN result, by opf and operands (U18). A quiet NaN is made of them by
setting the exponent and the quiet bit. Log 22. -/
opaque nanSingle (opf : BitVec 9) (a b : Doubleword) : Word
@[inherit_doc nanSingle] opaque nanDouble (opf : BitVec 9) (a b : Doubleword) : Doubleword

/-- The integer FsTOi and FdTOi write on a NaN, an infinity or overflow (U20). Log 23. -/
opaque invalidInt (opf : BitVec 9) (a : Doubleword) : Word

/-- Tininess is detected before rounding (U19). Log 24. -/
opaque tininessBefore : Bool

/-- The extended-precision operations with an extended result, whose 96-bit format is not given (R431, U31): result
bits and exceptions raised, by opf, RD, RP and operands (R436). Log 26. -/
opaque extendedResult (opf : BitVec 9) (rd rp : BitVec 2) (a b : BitVec 96) : BitVec 96
@[inherit_doc extendedResult] opaque extendedFlags (opf : BitVec 9) (rd rp : BitVec 2) (a b : BitVec 96) : BitVec 5

/-- FxTOs and FxTOd: result bits (the low ones for a single) and exceptions raised, by opf, RD and operand (R436,
R468, R469). Log 26. -/
opaque extendedNarrow (opf : BitVec 9) (rd : BitVec 2) (a : BitVec 96) : Doubleword
@[inherit_doc extendedNarrow] opaque extendedNarrowFlags (opf : BitVec 9) (rd : BitVec 2) (a : BitVec 96) : BitVec 5

/-- FxTOi: result and exceptions raised, by operand alone (RD is ignored, R463). Log 26. -/
opaque extendedInt (a : BitVec 96) : Word
@[inherit_doc extendedInt] opaque extendedIntFlags (a : BitVec 96) : BitVec 5

/-- FCMPx and FCMPEx (R470): whether an extended is a NaN, whether a NaN is signaling, and how two extendeds that
are no NaNs are ordered. Log 26. -/
opaque extendedIsNan (a : BitVec 96) : Bool
@[inherit_doc extendedIsNan] opaque extendedIsSignaling (a : BitVec 96) : Bool
@[inherit_doc extendedIsNan] opaque extendedOrder (a b : BitVec 96) : Ordering

/-! ## Coprocessor (`45_fpop_cpop.md` R480, `41_load_store_fp_cp.md` R270; U7 to U9). Log 32. -/

/-- CPopSem: what CPop1 (false) or CPop2 (true) at address `pc` does to the coprocessor. -/
opaque cpopSem (second : Bool) (opc : BitVec 9) (rd rs1 rs2 : RegNum) (pc : Word) : Coprocessor → Coprocessor

/-- The coprocessor's state after LDC, LDDC or LDCSR took a trap (U9). -/
opaque cpAfterLoadTrap : Nat → Coprocessor → Coprocessor

/-- The coprocessor's state after the IU took its cp_exception. -/
opaque cpAcknowledge : Coprocessor → Coprocessor

/-- The bits of CSR that LDCSR can write (R272). -/
opaque csrWritable : Word

/-- CCC after LDCSR loaded a word (R272). -/
opaque cccAfterLdcsr : Coprocessor → Word → BitVec 2

/-- Whether STDCQ advances the queue (R277). -/
opaque stdcqAdvances : Coprocessor → Bool

end Sys2Proof.Config
end

