-- ==== Sys2Proof/Machine/State.lean ====
section
/-! DEFINITION. The machine's state as plain data, the ways a step can stop, and the state after reset
(`10_state.md`). Field by field this is INVENTORY.md's list. -/

namespace Sys2Proof.Machine

/-! ## Traps and stops -/

/-- The traps of `60_exceptions.md` R510. -/
inductive Trap where
  | instructionAccessException
  | illegalInstruction
  | privilegedInstruction
  | fpDisabled
  | cpDisabled
  | windowOverflow
  | windowUnderflow
  | memoryAddressNotAligned
  | fpException
  | cpException
  | dataAccessException
  | tagOverflow
  /-- Ticc with its seven-bit trap number -/
  | trapInstruction (n : BitVec 7)
  /-- an interrupt at level 1 to 15 -/
  | interrupt (level : BitVec 4)
  deriving DecidableEq, Repr

/-- The reasons the machine stops at a step that the spec does not turn into a trap. -/
inductive Fault where
  /-- An alternate-space load, store or atomic instruction names an asi that the platform maps to no
  storage (`93_implementation_defined.md` U25, log 4). Raised by the twelve alternate-space
  instructions. Safe: the hardware may go on, the model proves nothing about it. -/
  | unmappedSpace (asi : BitVec 8)
  deriving DecidableEq, Repr

/-- The reasons an instruction has no meaning. -/
inductive Refusal where
  /-- `exec` has no meaning for the instruction yet. Raised by no arm of this model. Safe. -/
  | notModelled (mnemonic : String)
  /-- An odd register number names a doubleword, double or extended operand, or an extended operand
  runs past f[31]: `UNDEFINED` in the spec (`40_load_store_integer.md` R203,
  `41_load_store_fp_cp.md` R269, `45_fpop_cpop.md` R431, U22, log 18). Raised by the doubleword loads
  and stores and the double and extended FPops. Safe. -/
  | oddRegister (r : BitVec 5)
  /-- A delayed control transfer is executed as the delay instruction of a conditional branch, at once or
  resumed by RETT after a trap: unpredictable (`43_control_transfer.md` R363, U1, log 17). Raised by Bicc, FBfcc, CBccc, CALL, JMPL
  and RETT. Safe. -/
  | transferInDelaySlot
  deriving DecidableEq, Repr

/-! ## Parts of the state -/

/-- The integer condition codes, PSR bits 23:20 (R47). -/
structure Icc where
  n : Bool
  z : Bool
  v : Bool
  c : Bool
  deriving DecidableEq, Repr

/-- The PSR's writable fields (R45). impl and ver are constants of Config; bits 19:14 read as 0. -/
structure Psr where
  icc : Icc
  ec : Bool
  ef : Bool
  pil : BitVec 4
  s : Bool
  ps : Bool
  et : Bool
  cwp : BitVec 5
  deriving DecidableEq, Repr

/-- The FSR (R56). ver is a constant of Config; bits 22:20 and 12 read as 0. -/
structure Fsr where
  rd : BitVec 2
  rp : BitVec 2
  tem : BitVec 5
  ftt : BitVec 3
  qne : Bool
  fcc : BitVec 2
  aexc : BitVec 5
  cexc : BitVec 5
  deriving DecidableEq, Repr

/-- The FPU's mode (R59). -/
inductive FpuMode where
  | execute
  | exceptionPending
  | exception
  deriving DecidableEq, Repr

/-- The hazard window of a delayed write (`70_reset_and_hazards.md` R579): `left` of the three
instructions after a WRxxx are still to run; `old` is the oldest value in doubt, `new` the value the
last WRxxx wrote. -/
structure DelayedWrite (α : Type) where
  left : Nat
  old : α
  new : α
  deriving DecidableEq, Repr

/-- What the last executed instruction was, as far as the next one depends on it (log 36). -/
inductive Prev where
  /-- nothing of the following -/
  | other
  /-- a conditional branch whose delay instruction is not annulled (R363) -/
  | condBranch
  /-- a floating-point instruction other than FBfcc (R585) -/
  | fp
  /-- a coprocessor instruction other than CBccc (R586) -/
  | cp
  deriving DecidableEq, Repr

/-- The PC and nPC that a trap saved at the delay instruction of a conditional branch: a RETT to both resumes it
(R363, log 17). -/
structure DelaySlot where
  pc : Word
  npc : Word
  deriving DecidableEq, Repr

/-- A byte that a store of the last three instructions replaced (`20_memory.md` R112): its memory key,
the byte before the store, and how many of the next instructions may still have fetched it. -/
structure StaleByte where
  key : Nat
  old : Byte
  left : Nat
  deriving DecidableEq, Repr

/-- The kinds of memory access MemFault tells apart (`20_memory.md` R106). -/
inductive AccessKind where
  | fetch
  | read
  | write
  | rmw
  deriving DecidableEq, Repr

/-- One rule of the platform predicate MemFault (R106, log 5): accesses of this kind to this asi, with
the first address and the size in these ranges, are refused. -/
structure FaultRule where
  asi : BitVec 8
  kind : AccessKind
  addrLo : Nat
  addrHi : Nat
  sizeLo : Nat
  sizeHi : Nat
  deriving DecidableEq, Repr

/-- One point of the platform predicate UnfinishedFPop (`45_fpop_cpop.md` R437 c, U17, log 25): the FPU declines
to finish the FPop with this opf on these operands (a is 0 where there is one operand). -/
structure UnfinishedCase where
  opf : BitVec 9
  a : BitVec 96
  b : BitVec 96
  deriving DecidableEq, Repr

/-- The platform's parameters (`00_scope.md` R6), constant during a run. An asi reaches a storage by
its number; two asis with the same number reach the same bytes (R90, log 4). -/
structure Platform where
  /-- FPU_PRESENT -/
  fpuPresent : Bool
  /-- CP_PRESENT -/
  cpPresent : Bool
  /-- the level of the IFT input: true is 1 -/
  ift : Bool
  /-- EXTENDED_IMPLEMENTED -/
  extendedImplemented : Bool
  /-- AsiMap at 0x08, 0x09, 0x0A, 0x0B -/
  userInstr : Nat
  superInstr : Nat
  userData : Nat
  superData : Nat
  /-- AsiMap at the other asis: (asi, storage) -/
  otherSpaces : List (Nat × Nat)
  /-- MemFault -/
  faults : List FaultRule
  /-- UnfinishedFPop -/
  unfinished : List UnfinishedCase
  deriving DecidableEq, Repr

/-- What the inputs show at one instruction boundary: the external reset and the interrupt request
level IRL (`60_exceptions.md` R540, `70_reset_and_hazards.md` R570). -/
structure BoundaryInput where
  reset : Bool
  irl : BitVec 4
  deriving DecidableEq, Repr

/-- Memory: (key, byte) pairs, keys strictly rising, no byte equal to what an unlisted key reads as. -/
abbrev Memory := List Host.Cell

/-- What a byte of memory that nothing has written reads as. DESIGN CHOICE, unsafe (log 3): D0 leaves
memory after power-on to the platform. -/
def Memory.unlisted : Byte := 0#8

/-- The canonical form of memory: keys strictly rising, no entry equal to what an unlisted key reads
as. -/
def Memory.wf (m : Memory) : Bool :=
  decide (m.Pairwise fun a b => a.1 < b.1) && m.all fun c => decide (c.2 ≠ Memory.unlisted)

/-! ## The state -/

/-- The whole machine (`10_state.md`). -/
structure State where
  /-- program counter, next program counter (R40) -/
  pc : Word
  npc : Word
  /-- globals G[0..7] and windowed registers W[0..127] (R32) -/
  g : Vector Word 8
  w : Vector Word 128
  psr : Psr
  wim : Word
  tbr : Word
  y : Word
  /-- f[0..31] (R55) -/
  f : Vector Word 32
  fsr : Fsr
  /-- FQ, front first (R58) -/
  fq : List QueueEntry
  fpuMode : FpuMode
  cp : Coprocessor
  mem : Memory
  errorMode : Bool
  psrWrite : DelayedWrite Psr
  wimWrite : DelayedWrite Word
  tbrWrite : DelayedWrite Word
  yWrite : DelayedWrite Word
  prev : Prev
  /-- the delay instructions of conditional branches at which a trap was taken, not yet resumed (log 17) -/
  pausedDelays : List DelaySlot
  /-- newest first -/
  stale : List StaleByte
  platform : Platform
  /-- the samples at the coming instruction boundaries, the next one first; none left means no request
  (log 7) -/
  inputs : List BoundaryInput
  /-- the MODEL's counter of draws: free values are Config's constants applied to it (log 35) -/
  draws : Nat
  deriving DecidableEq, Repr

/-- The PSR after reset: S = 1, ET = 0 (R70); the rest DESIGN CHOICE (log 2). -/
def Psr.reset : Psr :=
  { icc := ⟨false, false, false, false⟩, ec := false, ef := false, pil := 0, s := true, ps := false, et := false, cwp := 0 }

/-- The FSR after reset: ftt = 0, qne = 0 (R70); the rest DESIGN CHOICE (log 2). -/
def Fsr.reset : Fsr := { rd := 0, rp := 0, tem := 0, ftt := 0, qne := false, fcc := 0, aexc := 0, cexc := 0 }

/-- The coprocessor after reset, DESIGN CHOICE (log 2). -/
def Coprocessor.reset : Coprocessor :=
  { c := Vector.replicate 32 0, csr := 0, cq := [], ccc := 0, exceptionPending := false }

/-- The spec's recommended parameters (`00_scope.md` R6), and the four fixed asis on one storage
(DESIGN CHOICE, log 4). -/
def Platform.default : Platform :=
  { fpuPresent := true, cpPresent := false, ift := true, extendedImplemented := false, userInstr := 0, superInstr := 0,
    userData := 0, superData := 0, otherSpaces := [], faults := [], unfinished := [] }

/-- The machine right after reset (R70, `70_reset_and_hazards.md` R570). -/
def State.reset : State :=
  { pc := 0x00000000, npc := 0x00000004, g := Vector.replicate 8 0, w := Vector.replicate 128 0, psr := Psr.reset, wim := 0,
    tbr := 0, y := 0, f := Vector.replicate 32 0, fsr := Fsr.reset, fq := [], fpuMode := .execute, cp := Coprocessor.reset,
    mem := [], errorMode := false, psrWrite := ⟨0, Psr.reset, Psr.reset⟩, wimWrite := ⟨0, 0, 0⟩, tbrWrite := ⟨0, 0, 0⟩,
    yWrite := ⟨0, 0, 0⟩, prev := .other, pausedDelays := [], stale := [], platform := Platform.default, inputs := [], draws := 0 }

/-- The outcome of a step of this machine. -/
abbrev Result := Host.Outcome State Fault Refusal

end Sys2Proof.Machine
end

