-- ==== Sys2Proof/Machine/Ops.lean ====
section
/-! DEFINITION. The named operations over memory and registers: memory reads and writes, the hazard
windows of the delayed writes, integer, f and c registers, the ends of an instruction, taking a trap,
external reset. Every meaning is built from these. -/

namespace Sys2Proof.Machine

open Sys2Proof

/-! ## Memory (`20_memory.md` R90, R93, R107) -/

/-- The byte at a key. -/
def Memory.read : Memory → Nat → Byte
  | [], _ => Memory.unlisted
  | (k, b) :: rest, key => if k = key then b else Memory.read rest key

/-- Writes a byte at a key, keeping the canonical form: a byte equal to what an unlisted key reads as
is not listed. -/
def Memory.write : Memory → Nat → Byte → Memory
  | [], key, v => if v = Memory.unlisted then [] else [(key, v)]
  | (k, b) :: rest, key, v =>
    if key < k then (if v = Memory.unlisted then (k, b) :: rest else (key, v) :: (k, b) :: rest)
    else if k = key then (if v = Memory.unlisted then rest else (key, v) :: rest)
    else (k, b) :: Memory.write rest key v

/-- The key of the byte at an address of a storage: each storage holds 2^32 bytes (R90). -/
def memKey (storage : Nat) (addr : Word) : Nat := storage * 2 ^ 32 + addr.toNat

/-- One byte of a storage. -/
def Memory.byteAt (m : Memory) (storage : Nat) (addr : Word) : Byte := Memory.read m (memKey storage addr)

/-- `MemRead(a, 2)`: big-endian (R93). -/
def Memory.half (m : Memory) (storage : Nat) (addr : Word) : Halfword :=
  Memory.byteAt m storage addr ++ Memory.byteAt m storage (addr + 1)

/-- `MemRead(a, 4)`: big-endian (R93). -/
def Memory.word (m : Memory) (storage : Nat) (addr : Word) : Word :=
  Memory.byteAt m storage addr ++ Memory.byteAt m storage (addr + 1) ++ Memory.byteAt m storage (addr + 2)
    ++ Memory.byteAt m storage (addr + 3)

/-- `MemRead(a, 8)`: the word at a, then the word at a + 4 (R101). -/
def Memory.double (m : Memory) (storage : Nat) (addr : Word) : Doubleword :=
  Memory.word m storage addr ++ Memory.word m storage (addr + 4)

/-- The storage an asi reaches under the platform's AsiMap (R90, R92, U25). -/
def Platform.storageOf (p : Platform) (asi : BitVec 8) : Option Nat :=
  match asi.toNat with
  | 0x08 => some p.userInstr
  | 0x09 => some p.superInstr
  | 0x0A => some p.userData
  | 0x0B => some p.superData
  | n => (p.otherSpaces.find? fun e => e.1 = n).map Prod.snd

/-- One rule of MemFault holds for an access. -/
def FaultRule.matches (r : FaultRule) (asi : BitVec 8) (addr : Word) (size : Nat) (kind : AccessKind) : Bool :=
  decide (r.asi = asi) && decide (r.kind = kind) && decide (r.addrLo ≤ addr.toNat) && decide (addr.toNat ≤ r.addrHi)
    && decide (r.sizeLo ≤ size) && decide (size ≤ r.sizeHi)

/-- `MemFault(asi, addr, size, kind)` (R106). -/
def Platform.memFault (p : Platform) (asi : BitVec 8) (addr : Word) (size : Nat) (kind : AccessKind) : Bool :=
  p.faults.any fun r => r.matches asi addr size kind

/-- One store of a byte: memory, and the byte it replaced for the words fetched ahead (R112). -/
def State.storeByte (s : State) (storage : Nat) (addr : Word) (v : Byte) : State :=
  { s with
    mem := Memory.write s.mem (memKey storage addr) v
    stale := { key := memKey storage addr, old := Memory.byteAt s.mem storage addr, left := 3 } :: s.stale }

/-- `MemWrite(a, 2, v)` (R93). -/
def State.storeHalf (s : State) (storage : Nat) (addr : Word) (v : Halfword) : State :=
  (s.storeByte storage addr (v.extractLsb' 8 8)).storeByte storage (addr + 1) (v.extractLsb' 0 8)

/-- `MemWrite(a, 4, v)` (R93). -/
def State.storeWord (s : State) (storage : Nat) (addr : Word) (v : Word) : State :=
  (((s.storeByte storage addr (v.extractLsb' 24 8)).storeByte storage (addr + 1) (v.extractLsb' 16 8)).storeByte storage
    (addr + 2) (v.extractLsb' 8 8)).storeByte storage (addr + 3) (v.extractLsb' 0 8)

/-- `MemWrite(a, 8, v)`: the more significant word at a, the other at a + 4 (R101). -/
def State.storeDouble (s : State) (storage : Nat) (addr : Word) (v : Doubleword) : State :=
  (s.storeWord storage addr (v.extractLsb' 32 32)).storeWord storage (addr + 4) (v.extractLsb' 0 32)

/-! ## Delayed writes (`70_reset_and_hazards.md` R579)

A register is read through a view. Outside its window the view is the register. Inside it, a field that
the WRxxx modified reads as a free value (R580 to R583, log 9). -/

/-- The window is open and the field `get` was modified by the write. -/
def DelayedWrite.doubts {α β : Type} [DecidableEq β] (d : DelayedWrite α) (get : α → β) : Bool :=
  decide (0 < d.left) && decide (get d.old ≠ get d.new)

/-- The end of one instruction: one fewer is left in the window. -/
def DelayedWrite.tick {α : Type} (d : DelayedWrite α) : DelayedWrite α := { d with left := d.left - 1 }

/-- A WRxxx: the window starts again, and the oldest value in doubt is kept. -/
def DelayedWrite.start {α : Type} (d : DelayedWrite α) (old new : α) : DelayedWrite α :=
  { left := 3, old := if 0 < d.left then d.old else old, new := new }

/-- The window closes (trap entry, reset). -/
def DelayedWrite.close {α : Type} (d : DelayedWrite α) : DelayedWrite α := { d with left := 0 }

/-- icc as an instruction reads it. -/
def State.iccView (s : State) : Icc :=
  if s.psrWrite.doubts Psr.icc then
    { n := Config.freeBit .iccN s.draws, z := Config.freeBit .iccZ s.draws, v := Config.freeBit .iccV s.draws,
      c := Config.freeBit .iccC s.draws }
  else s.psr.icc

/-- CWP as an instruction uses it. -/
def State.cwpView (s : State) : BitVec 5 :=
  if s.psrWrite.doubts Psr.cwp then (Config.freeCwp s.draws).setWidth 5 else s.psr.cwp

/-- S as the privilege test and the data asi see it. -/
def State.supervisor (s : State) : Bool :=
  if s.psrWrite.doubts Psr.s then Config.freeBit .supervisor s.draws else s.psr.s

/-- PS as RETT reads it. -/
def State.psView (s : State) : Bool :=
  if s.psrWrite.doubts Psr.ps then Config.freeBit .ps s.draws else s.psr.ps

/-- ET as RETT and the trap logic see it (R580, U33). -/
def State.trapsEnabled (s : State) : Bool :=
  if s.psrWrite.doubts Psr.et then Config.freeBit .et s.draws else s.psr.et

/-- EF as a floating-point instruction sees it. -/
def State.efView (s : State) : Bool :=
  if s.psrWrite.doubts Psr.ef then Config.freeBit .ef s.draws else s.psr.ef

/-- EC as a coprocessor instruction sees it. -/
def State.ecView (s : State) : Bool :=
  if s.psrWrite.doubts Psr.ec then Config.freeBit .ec s.draws else s.psr.ec

/-- The PSR as a 32-bit word (`10_state.md` R45). -/
def Psr.toWord (p : Psr) : Word :=
  Config.psrImpl ++ Config.psrVer ++ BitVec.ofBool p.icc.n ++ BitVec.ofBool p.icc.z ++ BitVec.ofBool p.icc.v
    ++ BitVec.ofBool p.icc.c ++ 0#6 ++ BitVec.ofBool p.ec ++ BitVec.ofBool p.ef ++ p.pil ++ BitVec.ofBool p.s
    ++ BitVec.ofBool p.ps ++ BitVec.ofBool p.et ++ p.cwp

/-- The writable PSR fields of a word (R45). -/
def Psr.ofWord (v : Word) : Psr :=
  { icc := ⟨v.getLsbD 23, v.getLsbD 22, v.getLsbD 21, v.getLsbD 20⟩, ec := v.getLsbD 13, ef := v.getLsbD 12,
    pil := v.extractLsb' 8 4, s := v.getLsbD 7, ps := v.getLsbD 6, et := v.getLsbD 5, cwp := v.extractLsb' 0 5 }

/-- What RDPSR reads (R580: "the value read is unpredictable" when the PSR was modified). -/
def State.psrRead (s : State) : Word :=
  if s.psrWrite.doubts id then Config.freeWord .psr s.draws else s.psr.toWord

/-- What RDWIM reads (R581). -/
def State.wimRead (s : State) : Word :=
  if s.wimWrite.doubts id then Config.freeWord .wim s.draws else s.wim

/-- Whether SAVE, RESTORE or RETT finds a window invalid (`10_state.md` R48, R581). -/
def State.windowInvalid (s : State) (window : BitVec 5) : Bool :=
  if s.wimWrite.doubts id then Config.freeBit .windowInvalid s.draws else s.wim.getLsbD window.toNat

/-- TBA, tt of a TBR word (`10_state.md` R49). -/
def tbaOf (tbr : Word) : BitVec 20 := tbr.extractLsb' 12 20
@[inherit_doc tbaOf] def ttOf (tbr : Word) : BitVec 8 := tbr.extractLsb' 4 8
/-- A TBR word of its two fields. -/
def tbrWord (tba : BitVec 20) (tt : BitVec 8) : Word := tba ++ tt ++ 0#4

/-- What RDTBR reads (R582). -/
def State.tbrRead (s : State) : Word :=
  if s.tbrWrite.doubts tbaOf then Config.freeWord .tbr s.draws else s.tbr

/-- Y as RDY and MULScc use it (R583). -/
def State.yView (s : State) : Word :=
  if s.yWrite.doubts id then Config.freeWord .y s.draws else s.y

/-! ## Integer registers (`10_state.md` R32, R33) -/

/-- The windowed register that r[8]..r[31] is in a window: outs, locals and ins follow each other, and
the ins are the outs of the next window (R32). -/
def windowIndex (cwp : BitVec 5) (r : RegNum) : Fin 128 :=
  ⟨(16 * cwp.toNat + (r.toNat - 8)) % 128, Nat.mod_lt _ (by decide)⟩

/-- The global register that r[0]..r[7] is. -/
def globalIndex (r : RegNum) : Fin 8 := ⟨r.toNat % 8, Nat.mod_lt _ (by decide)⟩

/-- r[i] of a window. -/
def State.regIn (s : State) (cwp : BitVec 5) (r : RegNum) : Word :=
  if r = 0#5 then 0#32 else if r.toNat < 8 then s.g.get (globalIndex r) else s.w.get (windowIndex cwp r)

/-- Write of r[i] of a window; a write to r[0] is discarded. -/
def State.setRegIn (s : State) (cwp : BitVec 5) (r : RegNum) (v : Word) : State :=
  if r = 0#5 then s
  else if r.toNat < 8 then { s with g := s.g.set (globalIndex r).val v (globalIndex r).isLt }
  else { s with w := s.w.set (windowIndex cwp r).val v (windowIndex cwp r).isLt }

/-- `x[i]`: r[i] of the current window. -/
def State.reg (s : State) (r : RegNum) : Word := s.regIn s.cwpView r

/-- `x[i] <- v`. -/
def State.setReg (s : State) (r : RegNum) (v : Word) : State := s.setRegIn s.cwpView r v

/-- The window below, entered by SAVE and by trap entry (R32). -/
def prevWindow (cwp : BitVec 5) : BitVec 5 := BitVec.ofNat 5 ((cwp.toNat + (Config.nWindows - 1)) % Config.nWindows)

/-- The window above, entered by RESTORE and RETT (R32). -/
def nextWindow (cwp : BitVec 5) : BitVec 5 := BitVec.ofNat 5 ((cwp.toNat + 1) % Config.nWindows)

/-- Changes CWP. -/
def State.setCwp (s : State) (cwp : BitVec 5) : State := { s with psr := { s.psr with cwp := cwp } }

/-- Writes n, z, v, c. -/
def State.setIcc (s : State) (icc : Icc) : State := { s with psr := { s.psr with icc := icc } }

/-! ## f registers and the FSR (`10_state.md` R55, R56) -/

/-- `f[i]`. -/
def State.freg (s : State) (r : RegNum) : Word := s.f.get ⟨r.toNat, r.isLt⟩

/-- `f[i] <- v`. -/
def State.setFreg (s : State) (r : RegNum) (v : Word) : State := { s with f := s.f.set r.toNat v r.isLt }

/-- `f[n] ++ f[n+1]` (R55). -/
def State.fdouble (s : State) (r : RegNum) : Doubleword := s.freg r ++ s.freg (r + 1)

/-- `f[n] ++ f[n+1] <- v`. -/
def State.setFdouble (s : State) (r : RegNum) (v : Doubleword) : State :=
  (s.setFreg r (v.extractLsb' 32 32)).setFreg (r + 1) (v.extractLsb' 0 32)

/-- `f[n] ++ f[n+1] ++ f[n+2]` (R55). -/
def State.fextended (s : State) (r : RegNum) : BitVec 96 := s.freg r ++ s.freg (r + 1) ++ s.freg (r + 2)

/-- `f[n] ++ f[n+1] ++ f[n+2] <- v`. -/
def State.setFextended (s : State) (r : RegNum) (v : BitVec 96) : State :=
  ((s.setFreg r (v.extractLsb' 64 32)).setFreg (r + 1) (v.extractLsb' 32 32)).setFreg (r + 2) (v.extractLsb' 0 32)

/-- The FSR as a 32-bit word (R56). -/
def Fsr.toWord (x : Fsr) : Word :=
  x.rd ++ x.rp ++ x.tem ++ 0#3 ++ Config.fsrVer ++ x.ftt ++ BitVec.ofBool x.qne ++ 0#1 ++ x.fcc ++ x.aexc ++ x.cexc

/-- What LDFSR writes: RD, RP, TEM, fcc, aexc, cexc; the rest is kept (R56, `41_load_store_fp_cp.md` R262). -/
def Fsr.load (x : Fsr) (w : Word) : Fsr :=
  { x with
    rd := w.extractLsb' 30 2, rp := w.extractLsb' 28 2, tem := w.extractLsb' 23 5, fcc := w.extractLsb' 10 2,
    aexc := w.extractLsb' 5 5, cexc := w.extractLsb' 0 5 }

/-! ## c registers (`10_state.md` R60) -/

/-- `c[i]`. -/
def State.creg (s : State) (r : RegNum) : Word := s.cp.c.get ⟨r.toNat, r.isLt⟩

/-- `c[i] <- v`. -/
def State.setCreg (s : State) (r : RegNum) (v : Word) : State :=
  { s with cp := { s.cp with c := s.cp.c.set r.toNat v r.isLt } }

/-! ## The end of an instruction (`10_state.md` R42, R43) -/

/-- An instruction has executed: the new PC and nPC, what kind of instruction it was, the hazard windows
one instruction shorter (R579), the next draw. -/
def State.retire (s : State) (pc npc : Word) (kind : Prev) : State :=
  { s with
    pc := pc, npc := npc, prev := kind, psrWrite := s.psrWrite.tick, wimWrite := s.wimWrite.tick,
    tbrWrite := s.tbrWrite.tick, yWrite := s.yWrite.tick, draws := s.draws + 1 }

/-- `advance` (R42). -/
def State.advance (s : State) : State := s.retire s.npc (s.npc + 4) .other

/-- `advance` of a floating-point instruction (R585). -/
def State.advanceFp (s : State) : State := s.retire s.npc (s.npc + 4) .fp

/-- `advance` of a coprocessor instruction (R586). -/
def State.advanceCp (s : State) : State := s.retire s.npc (s.npc + 4) .cp

/-! ## Taking a trap (`60_exceptions.md` R510, R520, R525) -/

/-- tt of a trap (R510). -/
def Trap.tt : Trap → BitVec 8
  | .instructionAccessException => 0x01
  | .illegalInstruction => 0x02
  | .privilegedInstruction => 0x03
  | .fpDisabled => 0x04
  | .cpDisabled => 0x24
  | .windowOverflow => 0x05
  | .windowUnderflow => 0x06
  | .memoryAddressNotAligned => 0x07
  | .fpException => 0x08
  | .cpException => 0x28
  | .dataAccessException => 0x09
  | .tagOverflow => 0x0A
  | .trapInstruction n => 0x80#8 + n.setWidth 8
  | .interrupt level => 0x10#8 + level.setWidth 8

/-- A trap handler's first instruction is no delay instruction; the one the trap was taken at is remembered in
`pausedDelays` (log 17). -/
def Prev.acrossTrap : Prev → Prev
  | .condBranch => .other
  | p => p

/-- The delay instructions to resume after a trap at PC: this one is among them exactly when it is the delay
instruction of a conditional branch (R363, log 17). -/
def State.delaysAtTrap (s : State) : List DelaySlot :=
  let others := s.pausedDelays.filter fun d => decide (d ≠ ⟨s.pc, s.npc⟩)
  if s.prev = .condBranch then ⟨s.pc, s.npc⟩ :: others else others

/-- The TBA a trap's vector uses: inside the window of a WRTBR the old or the new one (R582, U4). -/
def State.vectorTba (s : State) : BitVec 20 :=
  if s.tbrWrite.doubts tbaOf && Config.freeBit .vectorOldTba s.draws then tbaOf s.tbrWrite.old else tbaOf s.tbr

/-- Trap entry (R520): ET, PS, S, CWP, r[17] and r[18] of the new window, TBR.tt, then the vector
(R512). Entry works on the registers as they are, and closes the hazard windows (R579, R580). -/
def State.enterTrap (s : State) (t : Trap) : State :=
  let window := prevWindow s.psr.cwp
  let s1 := (s.setRegIn window 17#5 s.pc).setRegIn window 18#5 s.npc
  { s1 with
    psr := { s.psr with et := false, ps := s.psr.s, s := true, cwp := window }
    tbr := tbrWord (tbaOf s.tbr) t.tt
    pc := tbrWord s.vectorTba t.tt
    npc := tbrWord s.vectorTba t.tt + 4
    prev := s.prev.acrossTrap
    pausedDelays := s.delaysAtTrap
    psrWrite := s.psrWrite.close
    wimWrite := s.wimWrite.close
    tbrWrite := s.tbrWrite.close
    yWrite := s.yWrite.close
    draws := s.draws + 1 }

/-- Error mode (R525): TBR.tt and `error_mode`; nothing else changes but the model's counter. -/
def State.enterError (s : State) (t : Trap) : State :=
  { s with tbr := tbrWord (tbaOf s.tbr) t.tt, errorMode := true, draws := s.draws + 1 }

/-- A synchronous trap condition: the trap with ET = 1 (R520), error mode with ET = 0 (R525). -/
def State.trap (s : State) (t : Trap) : State := if s.trapsEnabled then s.enterTrap t else s.enterError t

/-- `raise <trap>`. -/
def raise (s : State) (t : Trap) : Result := .next (s.trap t)

/-- `privileged`: the privilege test (R400). -/
def privileged (s : State) (k : Result) : Result := if s.supervisor then k else raise s .privilegedInstruction

/-! ## Return from trap (`43_control_transfer.md` R384) -/

/-- What RETT does once its checks pass: ET, PC, nPC, CWP, S from PS. Where it goes back to the delay instruction
of a conditional branch, with the nPC saved there, that instruction is again one (R363, log 17). -/
def State.returnFromTrap (s : State) (target : Word) (window : BitVec 5) : State :=
  let slot : DelaySlot := ⟨s.npc, target⟩
  let s1 := { s with
    psr := { s.psr with et := true, cwp := window, s := s.psView }
    pausedDelays := s.pausedDelays.filter fun d => decide (d ≠ slot) }
  s1.retire s.npc target (if slot ∈ s.pausedDelays then .condBranch else .other)

/-! ## External reset (`70_reset_and_hazards.md` R570, R571) -/

/-- The state after the external reset input: PC, nPC, S, ET, error mode, the FPU's mode and queue and
the hazard windows as R570 says; TBR.tt, CWP and memory unchanged; every register whose value R70 calls
unspecified is a free value (log 21). -/
def State.externalReset (s : State) : State :=
  let v (slot : Nat) : Word := Config.resetWord s.draws slot
  let p := Psr.ofWord (v 200)
  { s with
    pc := 0x00000000, npc := 0x00000004
    g := Vector.ofFn fun i => if i.val = 0 then 0 else v i.val
    w := Vector.ofFn fun i => v (8 + i.val)
    psr := { p with s := true, et := false, cwp := s.psr.cwp }
    wim := ((v 201).extractLsb' 0 8).setWidth 32
    tbr := tbrWord (tbaOf (v 202)) (ttOf s.tbr)
    y := v 203
    f := Vector.ofFn fun i => v (136 + i.val)
    fsr := { Fsr.load s.fsr (v 204) with ftt := 0, qne := false }
    fq := [], fpuMode := .execute
    cp := Config.resetCoprocessor s.draws
    errorMode := false
    prev := s.prev.acrossTrap
    pausedDelays := []
    psrWrite := s.psrWrite.close, wimWrite := s.wimWrite.close, tbrWrite := s.tbrWrite.close, yWrite := s.yWrite.close
    draws := s.draws + 1 }

end Sys2Proof.Machine
end

