-- ==== Sys2Proof/Machine/Operands.lean ====
section
/-! DEFINITION. Operands: the second operand, effective addresses, shift counts, branch displacements,
register pairs, and the checked memory access every load and store goes through. -/

namespace Sys2Proof.Machine

open Sys2Proof

/-- `operand2` (`30_encoding.md` R141): r[rs2], or simm13 sign-extended. -/
def State.operand2 (s : State) : Operand2 → Word
  | .reg _ rs2 => s.reg rs2
  | .imm simm13 => simm13.signExtend 32

/-- `x[rs1] + operand2` modulo 2^32: an effective address, a jump target or a trap number
(`40_load_store_integer.md` R200). -/
def State.sum (s : State) (rs1 : RegNum) (src2 : Operand2) : Word := s.reg rs1 + s.operand2 src2

/-- `x[rs1] XOR operand2`: what a WRxxx writes (`44_control_registers_misc.md` R401). -/
def State.writeValue (s : State) (rs1 : RegNum) (src2 : Operand2) : Word := s.reg rs1 ^^^ s.operand2 src2

/-- The shift count: the low five bits of operand2 (`30_encoding.md` R144). -/
def shiftCount (b : Word) : Nat := (b.extractLsb' 0 5).toNat

/-- The byte displacement of a branch (`30_encoding.md` R143). -/
def branchOffset (disp22 : BitVec 22) : Word := disp22.signExtend 32 <<< 2

/-- The byte displacement of a CALL (`30_encoding.md` R143). -/
def callOffset (disp30 : BitVec 30) : Word := disp30 ++ 0#2

/-- The odd register of a pair whose even register is given (`10_state.md` R35). -/
def pairOf (r : RegNum) : RegNum := r + 1

/-- A register number that names a pair (`40_load_store_integer.md` R203). -/
def isPair (r : RegNum) : Bool := evenReg r

/-- A register number that names an extended operand (`45_fpop_cpop.md` R431, log 18). -/
def isTriple (r : RegNum) : Bool := extendedReg r

/-- `if rd[0] = 1 then UNDEFINED` (R203, R269). -/
def needPair (r : RegNum) (k : Result) : Result := if isPair r then k else .refused (.oddRegister r)

/-- The alignment test of an access or jump target (`20_memory.md` R98, R99). -/
def needAligned (s : State) (addr : Word) (size : Nat) (k : Result) : Result :=
  if addr.toNat % size = 0 then k else raise s .memoryAddressNotAligned

/-- `DataAsi()` (`20_memory.md` R96). -/
def State.dataAsi (s : State) : BitVec 8 := if s.supervisor then 0x0B#8 else 0x0A#8

/-- The access itself: `data_access_exception` where MemFault holds (`20_memory.md` R106), and the
storage the asi reaches (U25). -/
def access (s : State) (asi : BitVec 8) (addr : Word) (size : Nat) (kind : AccessKind) (k : Nat → Result) : Result :=
  if s.platform.memFault asi addr size kind then raise s .dataAccessException
  else match s.platform.storageOf asi with
    | some storage => k storage
    | none => .fault (.unmappedSpace asi)

/-- `AltCheck` (`40_load_store_integer.md` R202): the asi and the address of an alternate-space
instruction. -/
def altCheck (s : State) (rs1 : RegNum) (src2 : Operand2) (k : BitVec 8 → Word → Result) : Result :=
  match src2 with
  | .imm _ => raise s .illegalInstruction
  | .reg asi rs2 => privileged s (k asi (s.reg rs1 + s.reg rs2))

end Sys2Proof.Machine
end

