-- ==== Sys2Proof/Machine/Fetch.lean ====
section
/-! DEFINITION. Instruction fetch (`20_memory.md` R96, R97, R112), and placing an instruction where the next
fetch finds it. -/

namespace Sys2Proof.Machine

open Sys2Proof

/-- The byte at a key as a fetch made `age` instructions ahead saw it (R112): the byte before the oldest of
the stores since then. -/
def byteAsOf (s : State) (age : Nat) (key : Nat) : Byte :=
  s.stale.foldl (fun b e => if e.key = key ∧ 4 - e.left ≤ age then e.old else b) (Memory.read s.mem key)

/-- The word at an address as a fetch made `age` instructions ahead saw it. -/
def wordAsOf (s : State) (age storage : Nat) (addr : Word) : Word :=
  wordOfBytes (byteAsOf s age (memKey storage addr)) (byteAsOf s age (memKey storage (addr + 1)))
    (byteAsOf s age (memKey storage (addr + 2))) (byteAsOf s age (memKey storage (addr + 3)))

/-- The word the IU fetched at an address: where the stores of the last three instructions changed it, as of
any age up to three (log 19). -/
def fetchedWord (s : State) (storage : Nat) (addr : Word) : Word :=
  let now := wordAsOf s 0 storage addr
  if wordAsOf s 1 storage addr = now ∧ wordAsOf s 2 storage addr = now ∧ wordAsOf s 3 storage addr = now then now
  else wordAsOf s (Config.freeFetchAge s.draws).toNat storage addr

/-- `InstrAsi()` of a mode (R96). -/
def instrAsi (supervisor : Bool) : BitVec 8 := if supervisor then 0x09#8 else 0x08#8

/-- The storage of the instruction space of a mode. -/
def Platform.instrStorage (p : Platform) (supervisor : Bool) : Nat := if supervisor then p.superInstr else p.userInstr

/-- The word at PC in the instruction space of a mode; none where the platform refuses the fetch (R97). -/
def fetchAs (s : State) (supervisor : Bool) : Option Word :=
  if s.platform.memFault (instrAsi supervisor) s.pc 4 .fetch then none
  else some (fetchedWord s (s.platform.instrStorage supervisor) s.pc)

/-- The fetch. Inside the window of a WRPSR that changed S either space is used (R580, log 11). -/
def State.fetch (s : State) : Option Word :=
  if s.psrWrite.doubts Psr.s then
    let user := fetchAs s false
    let super := fetchAs s true
    if user = super then super else if Config.freeBit .fetchSupervisor s.draws then super else user
  else fetchAs s s.psr.s

/-- One more instruction has been fetched after the stores remembered. -/
def State.aged (s : State) : State :=
  { s with stale := (s.stale.map fun e => { e with left := e.left - 1 }).filter fun e => decide (0 < e.left) }

/-- A byte put in memory from outside, for every fetch to see. -/
def State.placeByte (s : State) (key : Nat) (v : Byte) : State :=
  { s with mem := Memory.write s.mem key v, stale := s.stale.filter fun e => decide (e.key ≠ key) }

/-- A word put in memory from outside, big-endian (R93). -/
def State.placeWord (s : State) (storage : Nat) (addr w : Word) : State :=
  (((s.placeByte (memKey storage addr) (byteOfWord w 0)).placeByte (memKey storage (addr + 1)) (byteOfWord w 1)).placeByte
    (memKey storage (addr + 2)) (byteOfWord w 2)).placeByte (memKey storage (addr + 3)) (byteOfWord w 3)

/-- A word put where the next fetch reads: at PC, in the instruction space of the mode, in both where the
mode is in doubt. -/
def State.placeAtFetch (s : State) (w : Word) : State :=
  if s.psrWrite.doubts Psr.s then
    (s.placeWord s.platform.userInstr s.pc w).placeWord s.platform.superInstr s.pc w
  else s.placeWord (s.platform.instrStorage s.psr.s) s.pc w

end Sys2Proof.Machine
end

