-- ==== Sys2Proof/Machine/Ieee.lean ====
section
/-! DEFINITION. ANSI/IEEE 754-1985 arithmetic, as `45_fpop_cpop.md` R431, R435, R436 and R470 ask for it:
unpack the operands, compute exactly in integers, round once. The standard's own text is not in the
spec (log 39). Exception bits are nv 16, of 8, uf 4, dz 2, nx 1 (R432). -/

namespace Sys2Proof.Machine

open Sys2Proof

/-- A binary format of the standard: a sign, an exponent and a fraction (R431). -/
structure Format where
  expBits : Nat
  fracBits : Nat
  deriving DecidableEq, Repr

def singleFormat : Format := ⟨8, 23⟩
def doubleFormat : Format := ⟨11, 52⟩

def Format.bias (fmt : Format) : Nat := 2 ^ (fmt.expBits - 1) - 1

/-- The exponent of the smallest normal number. -/
def Format.minExp (fmt : Format) : Int := 1 - (fmt.bias : Int)

/-- The bits of +infinity: also the first magnitude that is not a finite number. -/
def Format.infinityBits (fmt : Format) : Nat := (2 ^ fmt.expBits - 1) * 2 ^ fmt.fracBits

def Format.signBit (fmt : Format) (neg : Bool) : Nat := if neg then 2 ^ (fmt.expBits + fmt.fracBits) else 0

/-- What the bits of a format stand for; a finite number is mant * 2^exp with a sign. -/
inductive Number where
  | nan (signaling : Bool)
  | infinity (neg : Bool)
  | finite (neg : Bool) (mant : Nat) (exp : Int)
  deriving DecidableEq, Repr

/-- The number that bits stand for. A NaN is signaling when the first fraction bit is 0 (PRESUMED, log 39). -/
def Format.unpack (fmt : Format) (bits : Nat) : Number :=
  let frac := bits % 2 ^ fmt.fracBits
  let e := bits / 2 ^ fmt.fracBits % 2 ^ fmt.expBits
  let neg := bits.testBit (fmt.expBits + fmt.fracBits)
  if e = 2 ^ fmt.expBits - 1 then (if frac = 0 then .infinity neg else .nan (decide (frac < 2 ^ (fmt.fracBits - 1))))
  else if e = 0 then .finite neg frac (fmt.minExp - (fmt.fracBits : Int))
  else .finite neg (2 ^ fmt.fracBits + frac) ((e : Int) - (fmt.bias : Int) - (fmt.fracBits : Int))

/-- The bits are a NaN or a denormalized number: the operands for which an FPop may stay unfinished
(R437 c). -/
def Format.exotic (fmt : Format) (bits : Nat) : Bool :=
  let frac := bits % 2 ^ fmt.fracBits
  let e := bits / 2 ^ fmt.fracBits % 2 ^ fmt.expBits
  decide (frac ≠ 0) && (decide (e = 0) || decide (e = 2 ^ fmt.expBits - 1))

/-- The five exception bits. -/
def nvBit : BitVec 5 := 16#5
@[inherit_doc nvBit] def ofBit : BitVec 5 := 8#5
@[inherit_doc nvBit] def ufBit : BitVec 5 := 4#5
@[inherit_doc nvBit] def dzBit : BitVec 5 := 2#5
@[inherit_doc nvBit] def nxBit : BitVec 5 := 1#5

/-- An exception bit, raised or not. -/
def raiseIf (b : Bool) (bit : BitVec 5) : BitVec 5 := if b then bit else 0#5

/-- The exact result of an operation, before rounding; `value` is never zero. -/
inductive Exact where
  | nan (invalid : Bool)
  | infinity (neg : Bool) (flags : BitVec 5)
  | zero (neg : Bool)
  | value (neg : Bool) (mant : Nat) (exp : Int)
  deriving DecidableEq, Repr

/-- A rounded result: the bits, the exceptions, and whether the result is a NaN or tiny (R437 c). -/
structure Rounded where
  bits : Nat
  flags : BitVec 5
  exotic : Bool
  deriving DecidableEq, Repr

/-! ## Rounding (R436) -/

/-- Whether rounding in direction rd moves away from zero: `rest / unit` is the fraction cut off, `odd`
the last bit kept. -/
def roundsUp (rd : BitVec 2) (neg : Bool) (odd : Bool) (rest unit : Nat) : Bool :=
  match rd.toNat with
  | 0 => decide (unit < 2 * rest) || (decide (2 * rest = unit) && odd)
  | 1 => false
  | 2 => !neg && decide (rest ≠ 0)
  | _ => neg && decide (rest ≠ 0)

/-- mant * 2^exp as a whole number of units 2^ulp, and whether it is inexact. -/
def roundTo (rd : BitVec 2) (neg : Bool) (mant : Nat) (exp ulp : Int) : Nat × Bool :=
  if ulp ≤ exp then (mant * 2 ^ (exp - ulp).toNat, false)
  else
    let unit := 2 ^ (ulp - exp).toNat
    let q := mant / unit
    let rest := mant % unit
    (if roundsUp rd neg (decide (q % 2 = 1)) rest unit then q + 1 else q, decide (rest ≠ 0))

/-- The magnitude an overflow gives: infinity, or the largest finite number, by direction. -/
def Format.overflowBits (fmt : Format) (rd : BitVec 2) (neg : Bool) : Nat :=
  match rd.toNat with
  | 0 => fmt.infinityBits
  | 1 => fmt.infinityBits - 1
  | 2 => if neg then fmt.infinityBits - 1 else fmt.infinityBits
  | _ => if neg then fmt.infinityBits else fmt.infinityBits - 1

/-- Rounds a non-zero number to the format. `uf` is signalled for a tiny result that is inexact, and with
UFM = 1 for every tiny result (log 24). -/
def Format.round (fmt : Format) (rd : BitVec 2) (ufm : Bool) (neg : Bool) (mant : Nat) (exp : Int) : Rounded :=
  let top : Int := (mant.log2 : Int) + exp
  let ulp : Int := top - (fmt.fracBits : Int)
  let lowest : Int := fmt.minExp - (fmt.fracBits : Int)
  let unbounded := roundTo rd neg mant exp ulp
  let tinyBefore := decide (top < fmt.minExp)
  let tinyAfter := tinyBefore
    && !(decide (top + 1 = fmt.minExp) && decide (unbounded.1 = 2 ^ (fmt.fracBits + 1)))
  let kept := roundTo rd neg mant exp (max ulp lowest)
  let magnitude := (max ulp lowest - lowest).toNat * 2 ^ fmt.fracBits + kept.1
  if fmt.infinityBits ≤ magnitude then ⟨fmt.signBit neg + fmt.overflowBits rd neg, ofBit ||| nxBit, false⟩
  else
    let tiny := tinyAfter || (tinyBefore && Config.tininessBefore)
    ⟨fmt.signBit neg + magnitude, raiseIf (tiny && (kept.2 || ufm)) ufBit ||| raiseIf kept.2 nxBit, tinyBefore⟩

/-- The default result of an operation (R435): the exact result rounded, or a NaN with the bits given. -/
def Format.finish (fmt : Format) (rd : BitVec 2) (ufm : Bool) (nan : Nat) : Exact → Rounded
  | .nan invalid => ⟨nan, raiseIf invalid nvBit, true⟩
  | .infinity neg flags => ⟨fmt.signBit neg + fmt.infinityBits, flags, false⟩
  | .zero neg => ⟨fmt.signBit neg, 0#5, false⟩
  | .value neg mant exp => fmt.round rd ufm neg mant exp

/-! ## The operations -/

/-- A magnitude with a sign. -/
def signed (neg : Bool) (n : Nat) : Int := if neg then -(n : Int) else (n : Int)

/-- The number with the other sign. -/
def Number.negate : Number → Number
  | .nan s => .nan s
  | .infinity neg => .infinity (!neg)
  | .finite neg m e => .finite (!neg) m e

/-- Sum. A zero sum of numbers of different signs is -0 only when rounding toward -infinity. -/
def exactAdd (rd : BitVec 2) : Number → Number → Exact
  | .nan a, .nan b => .nan (a || b)
  | .nan a, _ => .nan a
  | _, .nan b => .nan b
  | .infinity a, .infinity b => if a = b then .infinity a 0#5 else .nan true
  | .infinity a, .finite _ _ _ => .infinity a 0#5
  | .finite _ _ _, .infinity b => .infinity b 0#5
  | .finite n1 m1 e1, .finite n2 m2 e2 =>
    let e := min e1 e2
    let v := signed n1 (m1 * 2 ^ (e1 - e).toNat) + signed n2 (m2 * 2 ^ (e2 - e).toNat)
    if v = 0 then .zero (if n1 = n2 then n1 else decide (rd = 3#2)) else .value (decide (v < 0)) v.natAbs e

/-- Difference. -/
def exactSub (rd : BitVec 2) (a b : Number) : Exact := exactAdd rd a b.negate

/-- Product. -/
def exactMul : Number → Number → Exact
  | .nan a, .nan b => .nan (a || b)
  | .nan a, _ => .nan a
  | _, .nan b => .nan b
  | .infinity a, .infinity b => .infinity (a ^^ b) 0#5
  | .infinity a, .finite n m _ => if m = 0 then .nan true else .infinity (a ^^ n) 0#5
  | .finite n m _, .infinity b => if m = 0 then .nan true else .infinity (n ^^ b) 0#5
  | .finite n1 m1 e1, .finite n2 m2 e2 => if m1 * m2 = 0 then .zero (n1 ^^ n2) else .value (n1 ^^ n2) (m1 * m2) (e1 + e2)

/-- Quotient, with a last bit set where it is not exact: the bits are more than any rounding looks at. -/
def exactDiv (fmt : Format) : Number → Number → Exact
  | .nan a, .nan b => .nan (a || b)
  | .nan a, _ => .nan a
  | _, .nan b => .nan b
  | .infinity _, .infinity _ => .nan true
  | .infinity a, .finite n _ _ => .infinity (a ^^ n) 0#5
  | .finite n _ _, .infinity b => .zero (n ^^ b)
  | .finite n1 m1 e1, .finite n2 m2 e2 =>
    if m2 = 0 then (if m1 = 0 then .nan true else .infinity (n1 ^^ n2) dzBit)
    else if m1 = 0 then .zero (n1 ^^ n2)
    else
      let shift := fmt.fracBits + 3 + m2.log2
      let num := m1 * 2 ^ shift
      .value (n1 ^^ n2) (2 * (num / m2) + (if num % m2 = 0 then 0 else 1)) (e1 - e2 - (shift : Int) - 1)

/-- The largest number with `bits` more bits below r whose square is at most n. -/
def sqrtFrom (n : Nat) : Nat → Nat → Nat
  | 0, r => r
  | bits + 1, r => sqrtFrom n bits (if (r + 2 ^ bits) * (r + 2 ^ bits) ≤ n then r + 2 ^ bits else r)

/-- Integer square root. -/
def sqrtFloor (n : Nat) : Nat := sqrtFrom n (n.log2 / 2 + 1) 0

/-- Square root, with a last bit set where it is not exact (R443). -/
def exactSqrt (fmt : Format) : Number → Exact
  | .nan a => .nan a
  | .infinity neg => if neg then .nan true else .infinity false 0#5
  | .finite neg m e =>
    if m = 0 then .zero neg
    else if neg then .nan true
    else
      let k := 2 * (fmt.fracBits + 3) + (e % 2).toNat
      let n := m * 2 ^ k
      let r := sqrtFloor n
      .value false (2 * r + (if r * r = n then 0 else 1)) ((e - (k : Int)) / 2 - 1)

/-- A number in another format: a signaling NaN is invalid (R464, R466). -/
def exactOf : Number → Exact
  | .nan a => .nan a
  | .infinity neg => .infinity neg 0#5
  | .finite neg m e => if m = 0 then .zero neg else .value neg m e

/-- A 32-bit integer (R458, R459). -/
def exactOfInt (v : Int) : Exact := if v = 0 then .zero false else .value (decide (v < 0)) v.natAbs 0

/-- The integer part of a number where it is a 32-bit integer (R461, R462), and whether it is inexact. -/
def truncated : Number → Option (Int × Bool)
  | .nan _ => none
  | .infinity _ => none
  | .finite neg m e =>
    let whole := if 0 ≤ e then m * 2 ^ e.toNat else m / 2 ^ (-e).toNat
    let inexact := decide (e < 0) && decide (m % 2 ^ (-e).toNat ≠ 0)
    let v := signed neg whole
    if -2 ^ 31 ≤ v ∧ v < 2 ^ 31 then some (v, inexact) else none

/-- An order number: fcc 0 equal, 1 less, 2 greater. -/
def fccOf (a b : Int) : BitVec 2 := if a = b then 0#2 else if a < b then 1#2 else 2#2

/-- `Compare` (R470): fcc, and whether an operand is a NaN or a signaling NaN. -/
def compareNumbers : Number → Number → BitVec 2
  | .nan _, _ => 3#2
  | _, .nan _ => 3#2
  | .infinity a, .infinity b => fccOf (signed a 1) (signed b 1)
  | .infinity a, .finite _ _ _ => fccOf (signed a 1) 0
  | .finite _ _ _, .infinity b => fccOf 0 (signed b 1)
  | .finite n1 m1 e1, .finite n2 m2 e2 =>
    let e := min e1 e2
    fccOf (signed n1 (m1 * 2 ^ (e1 - e).toNat)) (signed n2 (m2 * 2 ^ (e2 - e).toNat))

/-- The operand is a NaN; it is a signaling NaN. -/
def Number.isNan : Number → Bool
  | .nan _ => true
  | _ => false
@[inherit_doc Number.isNan] def Number.isSignaling : Number → Bool
  | .nan a => a
  | _ => false

end Sys2Proof.Machine
end

