-- ==== Sys2Proof/Machine/Fpu.lean ====
section
/-! DEFINITION. The floating-point operate procedure: presence and exception checks, failing FPops,
the queue, the exception flags, and the shapes an FPop has (`45_fpop_cpop.md` R432 to R437, R470). -/

namespace Sys2Proof.Machine

open Sys2Proof

/-! ## Checks (`41_load_store_fp_cp.md` R260, R268) -/

/-- `if EF = 0 or not FPU_PRESENT then raise fp_disabled` (R260). -/
def fpEnabled (s : State) (k : Result) : Result :=
  if s.efView && s.platform.fpuPresent then k else raise s .fpDisabled

/-- The IU takes the fp_exception trap (R433): the FPU goes to exception mode. In error mode nothing but
TBR.tt changes (R525, log 30). -/
def State.takeFpException (s : State) : State :=
  if s.trapsEnabled then { s with fpuMode := .exception }.enterTrap .fpException else s.enterError .fpException

/-- `if mode = fp_exception_pending then raise fp_exception` (R433). -/
def fpNoPending (s : State) (k : Result) : Result :=
  if s.fpuMode = .exceptionPending then .next s.takeFpException else k

/-- The state in which a sequence error's trap is taken (R434): ftt = 4, mode and queue as before. -/
def State.sequenceError (s : State) : State := { s with fsr := { s.fsr with ftt := 4 } }

/-- `if mode = fp_exception then SequenceError` (R434, R268): the net effect of the step, with ET = 0 too (log 30). -/
def fpNoSequence (s : State) (k : Result) : Result :=
  if s.fpuMode = .exception then raise s.sequenceError .fpException else k

/-- The checks an FPop and an FBfcc begin with (R432, R370). -/
def fpReady (s : State) (k : Result) : Result := fpEnabled s (fpNoPending s (fpNoSequence s k))

/-! ## The end of an FPop (R432, R435) -/

/-- `FpFail(t)`: the FPop at PC with this word is queued and its exception pending; no f register, fcc or
aexc is written, and the IU goes on. -/
def State.fpFail (s : State) (word : Word) (ftt : BitVec 3) : State :=
  { s with
    fsr := { s.fsr with ftt := ftt, qne := true }, fq := [⟨s.pc, word⟩], fpuMode := .exceptionPending }.advanceFp

/-- The first exception of nv, of, uf, dz, nx among those raised (R435). -/
def firstException (e : BitVec 5) : BitVec 5 :=
  if e.getLsbD 4 then nvBit else if e.getLsbD 3 then ofBit else if e.getLsbD 2 then ufBit
  else if e.getLsbD 1 then dzBit else e &&& nxBit

/-- `TrapCexc` (R435): the first enabled exception raised, and any of the disabled ones raised beside it
(U21, log 27). -/
def State.trapCexc (s : State) (texc : BitVec 5) : BitVec 5 :=
  let others := texc &&& ~~~s.fsr.tem
  firstException (texc &&& s.fsr.tem) ||| (if others = 0 then 0#5 else others &&& Config.freeCexc s.draws)

/-- The FPU state of an FPop that completes: cexc, aexc and ftt (R432). -/
def State.fpDone (s : State) (texc : BitVec 5) : State :=
  { s with fsr := { s.fsr with cexc := texc, aexc := s.fsr.aexc ||| texc, ftt := 0 } }

/-- `FPopStep` after its checks: unfinished, an enabled exception, or the result (R432). -/
def fpComplete (s : State) (word : Word) (unfinished : Bool) (texc : BitVec 5) (write : State → State) : Result :=
  if unfinished then .next (s.fpFail word 2)
  else if texc &&& s.fsr.tem ≠ 0 then
    .next ({ s with fsr := { s.fsr with cexc := s.trapCexc texc } }.fpFail word 1)
  else .next (write (s.fpDone texc)).advanceFp

/-- `FpFail(3)` where extended precision is not implemented (R437 d). -/
def fpExtended (s : State) (word : Word) (k : Result) : Result :=
  if s.platform.extendedImplemented then k else .next (s.fpFail word 3)

/-- An extended operand (R431). -/
def needTriple (r : RegNum) (k : Result) : Result := if isTriple r then k else .refused (.oddRegister r)

/-- The UFM bit of TEM (R56). -/
def State.ufm (s : State) : Bool := s.fsr.tem.getLsbD 2

/-! ## Results -/

/-- The NaN result of a single or double operation (R437 a, log 22): any quiet NaN. -/
def nanSingleBits (opf : BitVec 9) (a b : Doubleword) : Word := Config.nanSingle opf a b ||| 0x7FC00000#32
@[inherit_doc nanSingleBits] def nanDoubleBits (opf : BitVec 9) (a b : Doubleword) : Doubleword :=
  Config.nanDouble opf a b ||| 0x7FF8000000000000#64

/-- The rounded single or double result of an exact one. -/
def State.roundSingle (s : State) (opf : BitVec 9) (a b : Doubleword) (x : Exact) : Rounded :=
  singleFormat.finish s.fsr.rd s.ufm (nanSingleBits opf a b).toNat x
@[inherit_doc State.roundSingle] def State.roundDouble (s : State) (opf : BitVec 9) (a b : Doubleword) (x : Exact) : Rounded :=
  doubleFormat.finish s.fsr.rd s.ufm (nanDoubleBits opf a b).toNat x

/-- Writes a single or double result. -/
def writeSingle (rd : RegNum) (r : Rounded) (s : State) : State := s.setFreg rd (BitVec.ofNat 32 r.bits)
@[inherit_doc writeSingle] def writeDouble (rd : RegNum) (r : Rounded) (s : State) : State := s.setFdouble rd (BitVec.ofNat 64 r.bits)

/-- `UnfinishedFPop` of the platform (R437 c, U17, log 25). -/
def State.declines (s : State) (opf : BitVec 9) (a b : BitVec 96) : Bool := decide (⟨opf, a, b⟩ ∈ s.platform.unfinished)

/-- A single or double FPop is left unfinished only where an operand or the result is denormalized, tiny or a NaN
(R437 c, log 25). -/
def State.leftUnfinished (s : State) (exotic : Bool) (opf : BitVec 9) (a b : Doubleword) : Bool :=
  exotic && s.declines opf (a.setWidth 96) (b.setWidth 96)

/-- The number a single or double register operand holds. -/
def numberS (v : Word) : Number := singleFormat.unpack v.toNat
@[inherit_doc numberS] def numberD (v : Doubleword) : Number := doubleFormat.unpack v.toNat

/-- The operand is denormalized or a NaN. -/
def exoticS (v : Word) : Bool := singleFormat.exotic v.toNat
@[inherit_doc exoticS] def exoticD (v : Doubleword) : Bool := doubleFormat.exotic v.toNat

/-! ## The shapes of an FPop -/

/-- The word of an FPop1 or FPop2 (R430). -/
def fpop1Word (opf : BitVec 9) (rd rs1 rs2 : RegNum) : Word := operateWord 0x34#6 opf rd rs1 rs2
@[inherit_doc fpop1Word] def fpop2Word (opf : BitVec 9) (rd rs1 rs2 : RegNum) : Word := operateWord 0x35#6 opf rd rs1 rs2

/-- A move of one word: no rounding, no exception, never unfinished (R440 to R442, log 25). -/
def fpMove (s : State) (opf : BitVec 9) (rd rs1 rs2 : RegNum) (op : Word → Word) : Result :=
  fpReady s (fpComplete s (fpop1Word opf rd rs1 rs2) false 0#5 fun t => t.setFreg rd (op (s.freg rs2)))

/-- A single operation of two operands (R446, R449, R452, R455). -/
def fpBinaryS (s : State) (opf : BitVec 9) (rd rs1 rs2 : RegNum) (op : Number → Number → Exact) : Result :=
  fpReady s <|
    let a := s.freg rs1
    let b := s.freg rs2
    let r := s.roundSingle opf (a.setWidth 64) (b.setWidth 64) (op (numberS a) (numberS b))
    fpComplete s (fpop1Word opf rd rs1 rs2)
      (s.leftUnfinished (exoticS a || exoticS b || r.exotic) opf (a.setWidth 64) (b.setWidth 64)) r.flags (writeSingle rd r)

/-- A double operation of two operands (R447, R450, R453, R456). -/
def fpBinaryD (s : State) (opf : BitVec 9) (rd rs1 rs2 : RegNum) (op : Number → Number → Exact) : Result :=
  fpReady s <| needPair rs1 <| needPair rs2 <| needPair rd <|
    let a := s.fdouble rs1
    let b := s.fdouble rs2
    let r := s.roundDouble opf a b (op (numberD a) (numberD b))
    fpComplete s (fpop1Word opf rd rs1 rs2) (s.leftUnfinished (exoticD a || exoticD b || r.exotic) opf a b) r.flags
      (writeDouble rd r)

/-- A single operation of one single operand (R443). -/
def fpUnarySS (s : State) (opf : BitVec 9) (rd rs1 rs2 : RegNum) (op : Number → Exact) : Result :=
  fpReady s <|
    let b := s.freg rs2
    let r := s.roundSingle opf 0#64 (b.setWidth 64) (op (numberS b))
    fpComplete s (fpop1Word opf rd rs1 rs2) (s.leftUnfinished (exoticS b || r.exotic) opf 0#64 (b.setWidth 64)) r.flags
      (writeSingle rd r)

/-- A double operation of one double operand (R444). -/
def fpUnaryDD (s : State) (opf : BitVec 9) (rd rs1 rs2 : RegNum) (op : Number → Exact) : Result :=
  fpReady s <| needPair rs2 <| needPair rd <|
    let b := s.fdouble rs2
    let r := s.roundDouble opf 0#64 b (op (numberD b))
    fpComplete s (fpop1Word opf rd rs1 rs2) (s.leftUnfinished (exoticD b || r.exotic) opf 0#64 b) r.flags (writeDouble rd r)

/-- A double result of a single operand (R464). -/
def fpUnarySD (s : State) (opf : BitVec 9) (rd rs1 rs2 : RegNum) (op : Number → Exact) : Result :=
  fpReady s <| needPair rd <|
    let b := s.freg rs2
    let r := s.roundDouble opf 0#64 (b.setWidth 64) (op (numberS b))
    fpComplete s (fpop1Word opf rd rs1 rs2) (s.leftUnfinished (exoticS b || r.exotic) opf 0#64 (b.setWidth 64)) r.flags
      (writeDouble rd r)

/-- A single result of a double operand (R466). -/
def fpUnaryDS (s : State) (opf : BitVec 9) (rd rs1 rs2 : RegNum) (op : Number → Exact) : Result :=
  fpReady s <| needPair rs2 <|
    let b := s.fdouble rs2
    let r := s.roundSingle opf 0#64 b (op (numberD b))
    fpComplete s (fpop1Word opf rd rs1 rs2) (s.leftUnfinished (exoticD b || r.exotic) opf 0#64 b) r.flags (writeSingle rd r)

/-- A single or double result of an integer operand (R458, R459). -/
def fpFromIntS (s : State) (opf : BitVec 9) (rd rs1 rs2 : RegNum) : Result :=
  fpReady s <|
    let r := s.roundSingle opf 0#64 0#64 (exactOfInt (s.freg rs2).toInt)
    fpComplete s (fpop1Word opf rd rs1 rs2) false r.flags (writeSingle rd r)
@[inherit_doc fpFromIntS] def fpFromIntD (s : State) (opf : BitVec 9) (rd rs1 rs2 : RegNum) : Result :=
  fpReady s <| needPair rd <|
    let r := s.roundDouble opf 0#64 0#64 (exactOfInt (s.freg rs2).toInt)
    fpComplete s (fpop1Word opf rd rs1 rs2) false r.flags (writeDouble rd r)

/-- An integer of a number: truncated, with nx where inexact; nv and an open integer where it is not a
32-bit integer (R461, R462, U20, log 23). -/
def intResult (opf : BitVec 9) (a : Doubleword) (x : Number) : Word × BitVec 5 :=
  match truncated x with
  | some (v, inexact) => (BitVec.ofInt 32 v, raiseIf inexact nxBit)
  | none => (Config.invalidInt opf a, nvBit)

/-- An integer result of a single operand (R461). -/
def fpToIntS (s : State) (opf : BitVec 9) (rd rs1 rs2 : RegNum) : Result :=
  fpReady s <|
    let b := s.freg rs2
    let r := intResult opf (b.setWidth 64) (numberS b)
    fpComplete s (fpop1Word opf rd rs1 rs2) (s.leftUnfinished (exoticS b) opf 0#64 (b.setWidth 64)) r.2
      fun t => t.setFreg rd r.1

/-- An integer result of a double operand (R462). -/
def fpToIntD (s : State) (opf : BitVec 9) (rd rs1 rs2 : RegNum) : Result :=
  fpReady s <| needPair rs2 <|
    let b := s.fdouble rs2
    let r := intResult opf b (numberD b)
    fpComplete s (fpop1Word opf rd rs1 rs2) (s.leftUnfinished (exoticD b) opf 0#64 b) r.2 fun t => t.setFreg rd r.1

/-- The exceptions of a compare: nv on a signaling NaN, for the E forms on any NaN (R470). -/
def compareFlags (signalAll : Bool) (x y : Number) : BitVec 5 :=
  raiseIf (x.isSignaling || y.isSignaling || (signalAll && (x.isNan || y.isNan))) nvBit

/-- Writes fcc. -/
def writeFcc (fcc : BitVec 2) (s : State) : State := { s with fsr := { s.fsr with fcc := fcc } }

/-- A compare of two singles (R471, R474). -/
def fpCompareS (s : State) (opf : BitVec 9) (rd rs1 rs2 : RegNum) (signalAll : Bool) : Result :=
  fpReady s <|
    let a := s.freg rs1
    let b := s.freg rs2
    fpComplete s (fpop2Word opf rd rs1 rs2) (s.leftUnfinished (exoticS a || exoticS b) opf (a.setWidth 64) (b.setWidth 64))
      (compareFlags signalAll (numberS a) (numberS b)) (writeFcc (compareNumbers (numberS a) (numberS b)))

/-- A compare of two doubles (R472, R475). -/
def fpCompareD (s : State) (opf : BitVec 9) (rd rs1 rs2 : RegNum) (signalAll : Bool) : Result :=
  fpReady s <| needPair rs1 <| needPair rs2 <|
    let a := s.fdouble rs1
    let b := s.fdouble rs2
    fpComplete s (fpop2Word opf rd rs1 rs2) (s.leftUnfinished (exoticD a || exoticD b) opf a b)
      (compareFlags signalAll (numberD a) (numberD b)) (writeFcc (compareNumbers (numberD a) (numberD b)))

/-! ## Extended precision (R431, R437 d, U31, log 26): the arithmetic is open -/

/-- The end of an extended operation on operands a and b: the exceptions raised are among those its page lists.
One that can raise nothing (FiTOx) always finishes. -/
def fpExtendedOp (s : State) (word : Word) (opf : BitVec 9) (may : BitVec 5) (a b : BitVec 96) (raised : BitVec 5)
    (write : State → State) : Result :=
  fpComplete s word (decide (may ≠ 0) && s.declines opf a b) (raised &&& may) write

/-- An operation with an extended result: rounded by RD and RP (R436). -/
def fpToExtended (s : State) (opf : BitVec 9) (rd rs1 rs2 : RegNum) (may : BitVec 5) (a b : BitVec 96) : Result :=
  fpExtendedOp s (fpop1Word opf rd rs1 rs2) opf may a b (Config.extendedFlags opf s.fsr.rd s.fsr.rp a b) fun t =>
    t.setFextended rd (Config.extendedResult opf s.fsr.rd s.fsr.rp a b)

/-- Two extended operands, an extended result (R448, R451, R454, R457). -/
def fpBinaryX (s : State) (opf : BitVec 9) (rd rs1 rs2 : RegNum) (may : BitVec 5) : Result :=
  fpReady s <| fpExtended s (fpop1Word opf rd rs1 rs2) <| needTriple rs1 <| needTriple rs2 <| needTriple rd <|
    fpToExtended s opf rd rs1 rs2 may (s.fextended rs1) (s.fextended rs2)

/-- One extended operand, an extended result (R445). -/
def fpUnaryXX (s : State) (opf : BitVec 9) (rd rs1 rs2 : RegNum) (may : BitVec 5) : Result :=
  fpReady s <| fpExtended s (fpop1Word opf rd rs1 rs2) <| needTriple rs2 <| needTriple rd <|
    fpToExtended s opf rd rs1 rs2 may 0#96 (s.fextended rs2)

/-- A one-word operand (integer or single), an extended result (R460, R465). -/
def fpUnaryWX (s : State) (opf : BitVec 9) (rd rs1 rs2 : RegNum) (may : BitVec 5) : Result :=
  fpReady s <| fpExtended s (fpop1Word opf rd rs1 rs2) <| needTriple rd <|
    fpToExtended s opf rd rs1 rs2 may 0#96 ((s.freg rs2).setWidth 96)

/-- A double operand, an extended result (R467). -/
def fpUnaryDX (s : State) (opf : BitVec 9) (rd rs1 rs2 : RegNum) (may : BitVec 5) : Result :=
  fpReady s <| fpExtended s (fpop1Word opf rd rs1 rs2) <| needPair rs2 <| needTriple rd <|
    fpToExtended s opf rd rs1 rs2 may 0#96 ((s.fdouble rs2).setWidth 96)

/-- An extended operand, an integer result: RD is ignored (R436, R463). -/
def fpUnaryXI (s : State) (opf : BitVec 9) (rd rs1 rs2 : RegNum) (may : BitVec 5) : Result :=
  fpReady s <| fpExtended s (fpop1Word opf rd rs1 rs2) <| needTriple rs2 <|
    let b := s.fextended rs2
    fpExtendedOp s (fpop1Word opf rd rs1 rs2) opf may 0#96 b (Config.extendedIntFlags b) fun t =>
      t.setFreg rd (Config.extendedInt b)

/-- An extended operand, a single result: rounded by RD (R468). -/
def fpUnaryXS (s : State) (opf : BitVec 9) (rd rs1 rs2 : RegNum) (may : BitVec 5) : Result :=
  fpReady s <| fpExtended s (fpop1Word opf rd rs1 rs2) <| needTriple rs2 <|
    let b := s.fextended rs2
    fpExtendedOp s (fpop1Word opf rd rs1 rs2) opf may 0#96 b (Config.extendedNarrowFlags opf s.fsr.rd b) fun t =>
      t.setFreg rd ((Config.extendedNarrow opf s.fsr.rd b).setWidth 32)

/-- An extended operand, a double result: rounded by RD (R469). -/
def fpUnaryXD (s : State) (opf : BitVec 9) (rd rs1 rs2 : RegNum) (may : BitVec 5) : Result :=
  fpReady s <| fpExtended s (fpop1Word opf rd rs1 rs2) <| needTriple rs2 <| needPair rd <|
    let b := s.fextended rs2
    fpExtendedOp s (fpop1Word opf rd rs1 rs2) opf may 0#96 b (Config.extendedNarrowFlags opf s.fsr.rd b) fun t =>
      t.setFdouble rd (Config.extendedNarrow opf s.fsr.rd b)

/-- The relation of two extendeds (R470): unordered exactly where one is a NaN, else the order, which is open. -/
def compareExtended (a b : BitVec 96) : BitVec 2 :=
  if Config.extendedIsNan a || Config.extendedIsNan b then 3#2
  else match Config.extendedOrder a b with
    | .eq => 0#2
    | .lt => 1#2
    | .gt => 2#2

/-- The exceptions of an extended compare (R470): nv on a signaling NaN, for the E form on any NaN. Which NaNs are
signaling is open. -/
def compareExtendedFlags (signalAll : Bool) (a b : BitVec 96) : BitVec 5 :=
  let nan := Config.extendedIsNan a
  let nanB := Config.extendedIsNan b
  raiseIf ((nan && (signalAll || Config.extendedIsSignaling a)) || (nanB && (signalAll || Config.extendedIsSignaling b))) nvBit

/-- A compare of two extendeds (R473, R476). -/
def fpCompareX (s : State) (opf : BitVec 9) (rd rs1 rs2 : RegNum) (signalAll : Bool) : Result :=
  fpReady s <| fpExtended s (fpop2Word opf rd rs1 rs2) <| needTriple rs1 <| needTriple rs2 <|
    let a := s.fextended rs1
    let b := s.fextended rs2
    fpExtendedOp s (fpop2Word opf rd rs1 rs2) opf nvBit a b (compareExtendedFlags signalAll a b) (writeFcc (compareExtended a b))

/-- An unassigned opf is an unimplemented FPop (`30_encoding.md` R172): FpFail(3) after the checks. -/
def fpUnassigned (s : State) (word : Word) : Result := fpReady s (.next (s.fpFail word 3))

end Sys2Proof.Machine
end

