-- ==== Sys2Proof/Machine/Cycle.lean ====
section
/-! DEFINITION. One step: what happens at an instruction boundary (reset, error mode, interrupts), then the
fetch and the instruction (`10_state.md` R30, `60_exceptions.md` R525, R540, `70_reset_and_hazards.md` R570). -/

namespace Sys2Proof.Machine

open Sys2Proof

/-- What the inputs show at this boundary; no sample means no request (log 7). -/
def State.input (s : State) : BoundaryInput := s.inputs.headD ⟨false, 0#4⟩

/-- The inputs have been sampled. -/
def State.sampled (s : State) : State := { s with inputs := s.inputs.tail }

/-- ET and PIL as the acceptance test uses them: the old or the new value inside the window of a WRPSR that
changed the field (R541, R580, log 15). -/
def State.acceptEt (s : State) : Bool :=
  if s.psrWrite.doubts Psr.et then Config.freeBit .acceptEt s.draws else s.psr.et
@[inherit_doc State.acceptEt] def State.acceptPil (s : State) : BitVec 4 :=
  if s.psrWrite.doubts Psr.pil && Config.freeBit .acceptOldPil s.draws then s.psrWrite.old.pil else s.psr.pil

/-- The interrupt acceptance test (R540). -/
def State.interruptAccepted (s : State) (irl : BitVec 4) : Bool :=
  decide (irl ≠ 0) && s.acceptEt && (decide (irl = 15) || decide (s.acceptPil < irl))

/-- A word that is no instruction: an unassigned opf is an unimplemented FPop (`30_encoding.md` R172), the
rest trap `illegal_instruction` (R170). -/
def undecoded (r : Reject) (w : Word) (s : State) : Result :=
  match r with
  | .unassignedOpf _ _ => fpUnassigned s w
  | .unassignedOp2 _ => raise s .illegalInstruction
  | .unassignedOp3 _ _ => raise s .illegalInstruction
  | .truncated => raise s .illegalInstruction

/-- Executes a fetched word, or takes the trap of a refused fetch (R97). -/
def executeWord (run : Instr → State → Result) (s : State) : Option Word → Result
  | none => raise s .instructionAccessException
  | some w =>
    match decode w with
    | .ok i => run i s
    | .error r => undecoded r w s

/-- One step with `run` as the meaning of instructions: reset first (R570); nothing else in error mode (R525,
log 20); then an accepted interrupt (R540); then the instruction at PC. -/
def stepWith (run : Instr → State → Result) (s : State) : Result :=
  let t := s.sampled
  if s.input.reset then .next t.externalReset
  else if s.errorMode then .next t
  else if t.interruptAccepted s.input.irl then .next (t.enterTrap (.interrupt s.input.irl))
  else executeWord run t.aged t.fetch

end Sys2Proof.Machine
end

