-- ==== Sys2Proof/Machine/Cp.lean ====
section
/-! DEFINITION. Coprocessor checks and coprocessor operate (`41_load_store_fp_cp.md` R270, `45_fpop_cpop.md` R480). -/

namespace Sys2Proof.Machine

open Sys2Proof

/-- `if EC = 0 or not CP_PRESENT then raise cp_disabled` (R270); `trapped` is the state the trap is taken in. -/
def cpEnabled (s trapped : State) (k : Result) : Result :=
  if s.ecView && s.platform.cpPresent then k else raise trapped .cpDisabled

/-- The state in which a trap is taken with the coprocessor changed by it; in error mode nothing changes
(R525). -/
def State.cpTrapped (s : State) (cp : Coprocessor) : State := if s.trapsEnabled then { s with cp := cp } else s

/-- `if cp exception pending then raise cp_exception` (R270, log 32). -/
def cpNoException (s trapped : State) (k : Result) : Result :=
  if s.cp.exceptionPending then raise trapped .cpException else k

/-- The state in which a cp_exception is taken. -/
def State.cpAcknowledged (s : State) : State := s.cpTrapped (Config.cpAcknowledge s.cp)

/-- The checks a CPop and a CBccc begin with (R480, R375). -/
def cpReady (s : State) (k : Result) : Result := cpEnabled s s (cpNoException s s.cpAcknowledged k)

/-- CPop1 (R481). -/
def execCpop1 (opc : BitVec 9) (rd rs1 rs2 : RegNum) (s : State) : Result :=
  cpReady s (.next { s with cp := Config.cpopSem false opc rd rs1 rs2 s.pc s.cp }.advanceCp)

/-- CPop2 (R482). -/
def execCpop2 (opc : BitVec 9) (rd rs1 rs2 : RegNum) (s : State) : Result :=
  cpReady s (.next { s with cp := Config.cpopSem true opc rd rs1 rs2 s.pc s.cp }.advanceCp)

end Sys2Proof.Machine
end

