-- ==== Sys2Proof/Machine/Flags.lean ====
section
/-! DEFINITION. Flag computations (`42_arith_logic_shift.md` R301, R302, R307, R324) and the condition
tests of branches and Ticc (`43_control_transfer.md` R361, R371, R376). -/

namespace Sys2Proof.Machine

open Sys2Proof

/-- `AddFlags(a, b, r)` (R301). -/
def addFlags (a b r : Word) : Icc :=
  { n := r.msb
    z := decide (r = 0)
    v := (a.msb && b.msb && !r.msb) || (!a.msb && !b.msb && r.msb)
    c := (a.msb && b.msb) || (!r.msb && (a.msb || b.msb)) }

/-- `SubFlags(a, b, r)` (R307); c is a borrow. -/
def subFlags (a b r : Word) : Icc :=
  { n := r.msb
    z := decide (r = 0)
    v := (a.msb && !b.msb && !r.msb) || (!a.msb && b.msb && r.msb)
    c := (!a.msb && b.msb) || (r.msb && (!a.msb || b.msb)) }

/-- `LogicFlags(r)` (R302). -/
def logicFlags (r : Word) : Icc := { n := r.msb, z := decide (r = 0), v := false, c := false }

/-- `tagbad` (R324). -/
def tagBad (a b : Word) : Bool := decide (a.extractLsb' 0 2 ≠ 0) || decide (b.extractLsb' 0 2 ≠ 0)

/-- The flags of a tagged operation: overflow also where a tag is not zero (R324). -/
def Icc.orOverflow (i : Icc) (bad : Bool) : Icc := { i with v := i.v || bad }

/-- The integer condition of a Bicc or Ticc (R361). -/
def iccTest (cond : BitVec 4) (i : Icc) : Bool :=
  match cond.toNat with
  | 0 => false
  | 1 => i.z
  | 2 => i.z || (i.n ^^ i.v)
  | 3 => i.n ^^ i.v
  | 4 => i.c || i.z
  | 5 => i.c
  | 6 => i.n
  | 7 => i.v
  | 8 => true
  | 9 => !i.z
  | 10 => !(i.z || (i.n ^^ i.v))
  | 11 => !(i.n ^^ i.v)
  | 12 => !(i.c || i.z)
  | 13 => !i.c
  | 14 => !i.n
  | _ => !i.v

/-- The two-bit condition of an FBfcc (R371, with E L G U for fcc 0 1 2 3) or CBccc (R376). -/
def ccTest (cond : BitVec 4) (cc : BitVec 2) : Bool :=
  let e := decide (cc = 0)
  let l := decide (cc = 1)
  let g := decide (cc = 2)
  let u := decide (cc = 3)
  match cond.toNat with
  | 0 => false
  | 1 => u || l || g
  | 2 => l || g
  | 3 => u || l
  | 4 => l
  | 5 => u || g
  | 6 => g
  | 7 => u
  | 8 => true
  | 9 => e
  | 10 => u || e
  | 11 => g || e
  | 12 => u || g || e
  | 13 => l || e
  | 14 => u || l || e
  | _ => l || g || e

end Sys2Proof.Machine
end

