-- ==== Sys2Proof/Machine/Control.lean ====
section
/-! DEFINITION. Control transfer: Bicc, FBfcc, CBccc, CALL, JMPL, RETT, Ticc (`43_control_transfer.md`). -/

namespace Sys2Proof.Machine

open Sys2Proof

/-- A delayed control transfer may not be the delay instruction of a conditional branch (R363, log 17). -/
def notInDelaySlot (s : State) (k : Result) : Result := if s.prev = .condBranch then .refused .transferInDelaySlot else k

/-- A branch condition other than never and always (R362). -/
def isConditional (cond : BitVec 4) : Bool := decide (cond ≠ 0) && decide (cond ≠ 8)

/-- The target of a branch (R360). -/
def State.branchTarget (s : State) (disp22 : BitVec 22) : Word := s.pc + branchOffset disp22

/-- `Branch(taken, a, always)` (R362). The next instruction is the delay instruction of a conditional
branch where it is not annulled. -/
def State.branch (s : State) (cond : BitVec 4) (taken a : Bool) (disp22 : BitVec 22) : State :=
  let delay : Prev := if isConditional cond then .condBranch else .other
  let target := s.branchTarget disp22
  if taken && !(decide (cond = 8) && a) then s.retire s.npc target delay
  else if taken then s.retire target (target + 4) .other
  else if !a then s.retire s.npc (s.npc + 4) delay
  else s.retire (s.npc + 4) (s.npc + 8) .other

/-- A Bicc (R364). -/
def bicc (s : State) (cond : BitVec 4) (a : Bool) (disp22 : BitVec 22) : Result :=
  notInDelaySlot s (.next (s.branch cond (iccTest cond s.iccView) a disp22))

/-- fcc as an FBfcc tests it: any value directly after a floating-point instruction (R585, log 16). -/
def State.fccView (s : State) : BitVec 2 := if s.prev = .fp then Config.freeFcc s.draws else s.fsr.fcc

/-- An FBfcc (R370). -/
def fbfcc (s : State) (cond : BitVec 4) (a : Bool) (disp22 : BitVec 22) : Result :=
  notInDelaySlot s (fpReady s (.next (s.branch cond (ccTest cond s.fccView) a disp22)))

/-- CCC as a CBccc tests it: any value directly after a coprocessor instruction (R586, log 16). -/
def State.cccView (s : State) : BitVec 2 := if s.prev = .cp then Config.freeCcc s.draws else s.cp.ccc

/-- A CBccc (R375). -/
def cbccc (s : State) (cond : BitVec 4) (a : Bool) (disp22 : BitVec 22) : Result :=
  notInDelaySlot s (cpReady s (.next (s.branch cond (ccTest cond s.cccView) a disp22)))

/-- A Ticc (R390). -/
def ticc (s : State) (cond : BitVec 4) (rs1 : RegNum) (src2 : Operand2) : Result :=
  if iccTest cond s.iccView then raise s (.trapInstruction ((s.sum rs1 src2).extractLsb' 0 7)) else .next s.advance

/-- BN (R364). -/
def execBn (a : Bool) (disp22 : BitVec 22) (s : State) : Result := bicc s 0#4 a disp22

/-- BE (R364). -/
def execBe (a : Bool) (disp22 : BitVec 22) (s : State) : Result := bicc s 1#4 a disp22

/-- BLE (R364). -/
def execBle (a : Bool) (disp22 : BitVec 22) (s : State) : Result := bicc s 2#4 a disp22

/-- BL (R364). -/
def execBl (a : Bool) (disp22 : BitVec 22) (s : State) : Result := bicc s 3#4 a disp22

/-- BLEU (R364). -/
def execBleu (a : Bool) (disp22 : BitVec 22) (s : State) : Result := bicc s 4#4 a disp22

/-- BCS (R364). -/
def execBcs (a : Bool) (disp22 : BitVec 22) (s : State) : Result := bicc s 5#4 a disp22

/-- BNEG (R364). -/
def execBneg (a : Bool) (disp22 : BitVec 22) (s : State) : Result := bicc s 6#4 a disp22

/-- BVS (R364). -/
def execBvs (a : Bool) (disp22 : BitVec 22) (s : State) : Result := bicc s 7#4 a disp22

/-- BA (R364). -/
def execBa (a : Bool) (disp22 : BitVec 22) (s : State) : Result := bicc s 8#4 a disp22

/-- BNE (R364). -/
def execBne (a : Bool) (disp22 : BitVec 22) (s : State) : Result := bicc s 9#4 a disp22

/-- BG (R364). -/
def execBg (a : Bool) (disp22 : BitVec 22) (s : State) : Result := bicc s 10#4 a disp22

/-- BGE (R364). -/
def execBge (a : Bool) (disp22 : BitVec 22) (s : State) : Result := bicc s 11#4 a disp22

/-- BGU (R364). -/
def execBgu (a : Bool) (disp22 : BitVec 22) (s : State) : Result := bicc s 12#4 a disp22

/-- BCC (R364). -/
def execBcc (a : Bool) (disp22 : BitVec 22) (s : State) : Result := bicc s 13#4 a disp22

/-- BPOS (R364). -/
def execBpos (a : Bool) (disp22 : BitVec 22) (s : State) : Result := bicc s 14#4 a disp22

/-- BVC (R364). -/
def execBvc (a : Bool) (disp22 : BitVec 22) (s : State) : Result := bicc s 15#4 a disp22

/-- FBN (R370). -/
def execFbn (a : Bool) (disp22 : BitVec 22) (s : State) : Result := fbfcc s 0#4 a disp22

/-- FBNE (R370). -/
def execFbne (a : Bool) (disp22 : BitVec 22) (s : State) : Result := fbfcc s 1#4 a disp22

/-- FBLG (R370). -/
def execFblg (a : Bool) (disp22 : BitVec 22) (s : State) : Result := fbfcc s 2#4 a disp22

/-- FBUL (R370). -/
def execFbul (a : Bool) (disp22 : BitVec 22) (s : State) : Result := fbfcc s 3#4 a disp22

/-- FBL (R370). -/
def execFbl (a : Bool) (disp22 : BitVec 22) (s : State) : Result := fbfcc s 4#4 a disp22

/-- FBUG (R370). -/
def execFbug (a : Bool) (disp22 : BitVec 22) (s : State) : Result := fbfcc s 5#4 a disp22

/-- FBG (R370). -/
def execFbg (a : Bool) (disp22 : BitVec 22) (s : State) : Result := fbfcc s 6#4 a disp22

/-- FBU (R370). -/
def execFbu (a : Bool) (disp22 : BitVec 22) (s : State) : Result := fbfcc s 7#4 a disp22

/-- FBA (R370). -/
def execFba (a : Bool) (disp22 : BitVec 22) (s : State) : Result := fbfcc s 8#4 a disp22

/-- FBE (R370). -/
def execFbe (a : Bool) (disp22 : BitVec 22) (s : State) : Result := fbfcc s 9#4 a disp22

/-- FBUE (R370). -/
def execFbue (a : Bool) (disp22 : BitVec 22) (s : State) : Result := fbfcc s 10#4 a disp22

/-- FBGE (R370). -/
def execFbge (a : Bool) (disp22 : BitVec 22) (s : State) : Result := fbfcc s 11#4 a disp22

/-- FBUGE (R370). -/
def execFbuge (a : Bool) (disp22 : BitVec 22) (s : State) : Result := fbfcc s 12#4 a disp22

/-- FBLE (R370). -/
def execFble (a : Bool) (disp22 : BitVec 22) (s : State) : Result := fbfcc s 13#4 a disp22

/-- FBULE (R370). -/
def execFbule (a : Bool) (disp22 : BitVec 22) (s : State) : Result := fbfcc s 14#4 a disp22

/-- FBO (R370). -/
def execFbo (a : Bool) (disp22 : BitVec 22) (s : State) : Result := fbfcc s 15#4 a disp22

/-- CBN (R375). -/
def execCbn (a : Bool) (disp22 : BitVec 22) (s : State) : Result := cbccc s 0#4 a disp22

/-- CB123 (R375). -/
def execCb123 (a : Bool) (disp22 : BitVec 22) (s : State) : Result := cbccc s 1#4 a disp22

/-- CB12 (R375). -/
def execCb12 (a : Bool) (disp22 : BitVec 22) (s : State) : Result := cbccc s 2#4 a disp22

/-- CB13 (R375). -/
def execCb13 (a : Bool) (disp22 : BitVec 22) (s : State) : Result := cbccc s 3#4 a disp22

/-- CB1 (R375). -/
def execCb1 (a : Bool) (disp22 : BitVec 22) (s : State) : Result := cbccc s 4#4 a disp22

/-- CB23 (R375). -/
def execCb23 (a : Bool) (disp22 : BitVec 22) (s : State) : Result := cbccc s 5#4 a disp22

/-- CB2 (R375). -/
def execCb2 (a : Bool) (disp22 : BitVec 22) (s : State) : Result := cbccc s 6#4 a disp22

/-- CB3 (R375). -/
def execCb3 (a : Bool) (disp22 : BitVec 22) (s : State) : Result := cbccc s 7#4 a disp22

/-- CBA (R375). -/
def execCba (a : Bool) (disp22 : BitVec 22) (s : State) : Result := cbccc s 8#4 a disp22

/-- CB0 (R375). -/
def execCb0 (a : Bool) (disp22 : BitVec 22) (s : State) : Result := cbccc s 9#4 a disp22

/-- CB03 (R375). -/
def execCb03 (a : Bool) (disp22 : BitVec 22) (s : State) : Result := cbccc s 10#4 a disp22

/-- CB02 (R375). -/
def execCb02 (a : Bool) (disp22 : BitVec 22) (s : State) : Result := cbccc s 11#4 a disp22

/-- CB023 (R375). -/
def execCb023 (a : Bool) (disp22 : BitVec 22) (s : State) : Result := cbccc s 12#4 a disp22

/-- CB01 (R375). -/
def execCb01 (a : Bool) (disp22 : BitVec 22) (s : State) : Result := cbccc s 13#4 a disp22

/-- CB013 (R375). -/
def execCb013 (a : Bool) (disp22 : BitVec 22) (s : State) : Result := cbccc s 14#4 a disp22

/-- CB012 (R375). -/
def execCb012 (a : Bool) (disp22 : BitVec 22) (s : State) : Result := cbccc s 15#4 a disp22

/-- CALL (R380). -/
def execCall (disp30 : BitVec 30) (s : State) : Result :=
  notInDelaySlot s (.next ((s.setReg 15#5 s.pc).retire s.npc (s.pc + callOffset disp30) .other))

/-- JMPL (R382). -/
def execJmpl (rd rs1 : RegNum) (src2 : Operand2) (s : State) : Result :=
  notInDelaySlot s <|
  let target := s.sum rs1 src2
  needAligned s target 4 (.next ((s.setReg rd s.pc).retire s.npc target .other))

/-- RETT (R384): an ordinary trap with ET = 1; with ET = 0 a failed check is error mode. -/
def execRett (_rd rs1 : RegNum) (src2 : Operand2) (s : State) : Result :=
  notInDelaySlot s <|
  let window := nextWindow s.cwpView
  let target := s.sum rs1 src2
  if s.trapsEnabled then raise s .illegalInstruction
  else if !s.supervisor then .next (s.enterError .privilegedInstruction)
  else if s.windowInvalid window then .next (s.enterError .windowUnderflow)
  else if target.toNat % 4 ≠ 0 then .next (s.enterError .memoryAddressNotAligned)
  else .next (s.returnFromTrap target window)

/-- TN (R390). -/
def execTn (_ign : Bool) (rs1 : RegNum) (src2 : Operand2) (s : State) : Result := ticc s 0#4 rs1 src2

/-- TE (R390). -/
def execTe (_ign : Bool) (rs1 : RegNum) (src2 : Operand2) (s : State) : Result := ticc s 1#4 rs1 src2

/-- TLE (R390). -/
def execTle (_ign : Bool) (rs1 : RegNum) (src2 : Operand2) (s : State) : Result := ticc s 2#4 rs1 src2

/-- TL (R390). -/
def execTl (_ign : Bool) (rs1 : RegNum) (src2 : Operand2) (s : State) : Result := ticc s 3#4 rs1 src2

/-- TLEU (R390). -/
def execTleu (_ign : Bool) (rs1 : RegNum) (src2 : Operand2) (s : State) : Result := ticc s 4#4 rs1 src2

/-- TCS (R390). -/
def execTcs (_ign : Bool) (rs1 : RegNum) (src2 : Operand2) (s : State) : Result := ticc s 5#4 rs1 src2

/-- TNEG (R390). -/
def execTneg (_ign : Bool) (rs1 : RegNum) (src2 : Operand2) (s : State) : Result := ticc s 6#4 rs1 src2

/-- TVS (R390). -/
def execTvs (_ign : Bool) (rs1 : RegNum) (src2 : Operand2) (s : State) : Result := ticc s 7#4 rs1 src2

/-- TA (R390). -/
def execTa (_ign : Bool) (rs1 : RegNum) (src2 : Operand2) (s : State) : Result := ticc s 8#4 rs1 src2

/-- TNE (R390). -/
def execTne (_ign : Bool) (rs1 : RegNum) (src2 : Operand2) (s : State) : Result := ticc s 9#4 rs1 src2

/-- TG (R390). -/
def execTg (_ign : Bool) (rs1 : RegNum) (src2 : Operand2) (s : State) : Result := ticc s 10#4 rs1 src2

/-- TGE (R390). -/
def execTge (_ign : Bool) (rs1 : RegNum) (src2 : Operand2) (s : State) : Result := ticc s 11#4 rs1 src2

/-- TGU (R390). -/
def execTgu (_ign : Bool) (rs1 : RegNum) (src2 : Operand2) (s : State) : Result := ticc s 12#4 rs1 src2

/-- TCC (R390). -/
def execTcc (_ign : Bool) (rs1 : RegNum) (src2 : Operand2) (s : State) : Result := ticc s 13#4 rs1 src2

/-- TPOS (R390). -/
def execTpos (_ign : Bool) (rs1 : RegNum) (src2 : Operand2) (s : State) : Result := ticc s 14#4 rs1 src2

/-- TVC (R390). -/
def execTvc (_ign : Bool) (rs1 : RegNum) (src2 : Operand2) (s : State) : Result := ticc s 15#4 rs1 src2

end Sys2Proof.Machine
end

