-- ==== Sys2Proof/Machine/CpLoadStore.lean ====
section
/-! DEFINITION. Coprocessor loads and stores (`41_load_store_fp_cp.md` section 3). -/

namespace Sys2Proof.Machine

open Sys2Proof

/-- A coprocessor load or store after its enable and pair checks (R270); `atTrap` and `atException` are the
states in which its own traps and a cp_exception are taken. -/
def cpAccess (s atTrap atException : State) (rs1 : RegNum) (src2 : Operand2) (size : Nat) (kind : AccessKind)
    (k : Nat → Word → Result) : Result :=
  let ea := s.sum rs1 src2
  needAligned atTrap ea size <| cpNoException s atException <|
    access atTrap s.dataAsi ea size kind fun storage => k storage ea

/-- The state a trap of LDC, LDDC or LDCSR is taken in: the coprocessor's state is open (U9, log 32). -/
def State.cpLoadTrapped (s : State) : State :=
  if s.platform.cpPresent then s.cpTrapped (Config.cpAfterLoadTrap s.draws s.cp) else s

/-- A coprocessor load after `cp_disabled`. -/
def cpLoad (s : State) (rs1 : RegNum) (src2 : Operand2) (size : Nat) (k : Nat → Word → Result) : Result :=
  cpAccess s s.cpLoadTrapped s.cpLoadTrapped rs1 src2 size .read k

/-- A coprocessor store after `cp_disabled`. -/
def cpStore (s : State) (rs1 : RegNum) (src2 : Operand2) (size : Nat) (k : Nat → Word → Result) : Result :=
  cpAccess s s s.cpAcknowledged rs1 src2 size .write k

/-- `c[rd] ++ c[rd+1]`. -/
def State.cpair (s : State) (rd : RegNum) : Doubleword := s.creg rd ++ s.creg (pairOf rd)

/-- LDCSR: the writable bits of CSR, and CCC as the coprocessor defines (R272, log 32). That it signals no
cp_exception of its own, as no completing coprocessor load or store does, is the model's choice (DESIGN CHOICE, log
32): R270 leaves open when one is signalled. -/
def State.loadCsr (s : State) (w : Word) : State :=
  { s with
    cp := { s.cp with
      csr := (w &&& Config.csrWritable) ||| (s.cp.csr &&& ~~~Config.csrWritable), ccc := Config.cccAfterLdcsr s.cp w } }

/-- The doubleword STDCQ stores: the front of the queue, any doubleword where it is empty (R277, log 32). -/
def State.cqFront (s : State) : Doubleword :=
  match s.cp.cq with
  | e :: _ => e.addr ++ e.instr
  | [] => Config.freeWord .cqAddr s.draws ++ Config.freeWord .cqInstr s.draws

/-- Whether STDCQ advances the queue is the coprocessor's (R277, log 32). -/
def State.popCq (s : State) : State :=
  if Config.stdcqAdvances s.cp then { s with cp := { s.cp with cq := s.cp.cq.tail } } else s

/-- LDC (R271). -/
def execLdc (rd rs1 : RegNum) (src2 : Operand2) (s : State) : Result :=
  cpEnabled s s.cpLoadTrapped (cpLoad s rs1 src2 4 fun st ea => .next (s.setCreg rd (s.mem.word st ea)).advanceCp)

/-- LDCSR (R272). -/
def execLdcsr (_rd rs1 : RegNum) (src2 : Operand2) (s : State) : Result :=
  cpEnabled s s.cpLoadTrapped (cpLoad s rs1 src2 4 fun st ea => .next (s.loadCsr (s.mem.word st ea)).advanceCp)

/-- LDDC (R273). -/
def execLddc (rd rs1 : RegNum) (src2 : Operand2) (s : State) : Result :=
  cpEnabled s s.cpLoadTrapped <| needPair rd <| cpLoad s rs1 src2 8 fun st ea =>
    let d := s.mem.double st ea
    .next ((s.setCreg rd (d.extractLsb' 32 32)).setCreg (pairOf rd) (d.extractLsb' 0 32)).advanceCp

/-- STC (R274). -/
def execStc (rd rs1 : RegNum) (src2 : Operand2) (s : State) : Result :=
  cpEnabled s s (cpStore s rs1 src2 4 fun st ea => .next (s.storeWord st ea (s.creg rd)).advanceCp)

/-- STDC (R275). -/
def execStdc (rd rs1 : RegNum) (src2 : Operand2) (s : State) : Result :=
  cpEnabled s s (needPair rd (cpStore s rs1 src2 8 fun st ea => .next (s.storeDouble st ea (s.cpair rd)).advanceCp))

/-- STCSR (R276). -/
def execStcsr (_rd rs1 : RegNum) (src2 : Operand2) (s : State) : Result :=
  cpEnabled s s (cpStore s rs1 src2 4 fun st ea => .next (s.storeWord st ea s.cp.csr).advanceCp)

/-- STDCQ (R277). -/
def execStdcq (_rd rs1 : RegNum) (src2 : Operand2) (s : State) : Result :=
  privileged s <| cpEnabled s s <| cpStore s rs1 src2 8 fun st ea =>
    .next (s.popCq.storeDouble st ea s.cqFront).advanceCp

end Sys2Proof.Machine
end

