-- ==== Sys2Proof/Machine/FpLoadStore.lean ====
section
/-! DEFINITION. Floating-point loads and stores (`41_load_store_fp_cp.md` section 2). -/

namespace Sys2Proof.Machine

open Sys2Proof

/-- A floating-point load or store after its enable and pair checks (R260): alignment, a pending
exception, for a load (`ready`) the sequence error, the access. -/
def fpAccess (s : State) (rs1 : RegNum) (src2 : Operand2) (size : Nat) (kind : AccessKind) (k : Nat → Word → Result) : Result :=
  let ea := s.sum rs1 src2
  needAligned s ea size <| fpNoPending s <|
    (if kind = .read then fpNoSequence s else id) (access s s.dataAsi ea size kind fun storage => k storage ea)

/-- The doubleword STDFQ stores: the front of the queue, any doubleword where it is empty (R267, log 29). -/
def State.fqFront (s : State) : Doubleword :=
  match s.fq with
  | e :: _ => e.addr ++ e.instr
  | [] => Config.freeWord .fqAddr s.draws ++ Config.freeWord .fqInstr s.draws

/-- STDFQ in exception mode: the queue advances; when it is empty the FPU is in execute mode (R267). -/
def State.popFq (s : State) : State :=
  if s.fpuMode = .exception then
    match s.fq.tail with
    | [] => { s with fq := [], fsr := { s.fsr with qne := false }, fpuMode := .execute }
    | rest => { s with fq := rest }
  else s

/-- LDF (R261). -/
def execLdf (rd rs1 : RegNum) (src2 : Operand2) (s : State) : Result :=
  fpEnabled s (fpAccess s rs1 src2 4 .read fun st ea => .next (s.setFreg rd (s.mem.word st ea)).advanceFp)

/-- LDFSR (R262). -/
def execLdfsr (_rd rs1 : RegNum) (src2 : Operand2) (s : State) : Result :=
  fpEnabled s (fpAccess s rs1 src2 4 .read fun st ea => .next { s with fsr := s.fsr.load (s.mem.word st ea) }.advanceFp)

/-- LDDF (R263). -/
def execLddf (rd rs1 : RegNum) (src2 : Operand2) (s : State) : Result :=
  fpEnabled s (needPair rd (fpAccess s rs1 src2 8 .read fun st ea => .next (s.setFdouble rd (s.mem.double st ea)).advanceFp))

/-- STF (R264). -/
def execStf (rd rs1 : RegNum) (src2 : Operand2) (s : State) : Result :=
  fpEnabled s (fpAccess s rs1 src2 4 .write fun st ea => .next (s.storeWord st ea (s.freg rd)).advanceFp)

/-- STDF (R265). -/
def execStdf (rd rs1 : RegNum) (src2 : Operand2) (s : State) : Result :=
  fpEnabled s (needPair rd (fpAccess s rs1 src2 8 .write fun st ea => .next (s.storeDouble st ea (s.fdouble rd)).advanceFp))

/-- STFSR (R266). -/
def execStfsr (_rd rs1 : RegNum) (src2 : Operand2) (s : State) : Result :=
  fpEnabled s (fpAccess s rs1 src2 4 .write fun st ea => .next (s.storeWord st ea s.fsr.toWord).advanceFp)

/-- STDFQ (R267). -/
def execStdfq (_rd rs1 : RegNum) (src2 : Operand2) (s : State) : Result :=
  privileged s <| fpEnabled s <| fpAccess s rs1 src2 8 .write fun st ea =>
    .next (s.popFq.storeDouble st ea s.fqFront).advanceFp

end Sys2Proof.Machine
end

