-- ==== Sys2Proof/Machine/Fpop.lean ====
section
/-! DEFINITION. Floating-point operate instructions (`45_fpop_cpop.md` sections 2 to 6). -/

namespace Sys2Proof.Machine

open Sys2Proof

/-- FMOVs (R440). -/
def execFmovs (rd rs1 rs2 : RegNum) (s : State) : Result := fpMove s 0x001#9 rd rs1 rs2 id

/-- FNEGs (R441). -/
def execFnegs (rd rs1 rs2 : RegNum) (s : State) : Result := fpMove s 0x005#9 rd rs1 rs2 fun v => v ^^^ 0x80000000#32

/-- FABSs (R442). -/
def execFabss (rd rs1 rs2 : RegNum) (s : State) : Result := fpMove s 0x009#9 rd rs1 rs2 fun v => v &&& 0x7FFFFFFF#32

/-- FSQRTs (R443). -/
def execFsqrts (rd rs1 rs2 : RegNum) (s : State) : Result := fpUnarySS s 0x029#9 rd rs1 rs2 (exactSqrt singleFormat)

/-- FSQRTd (R444). -/
def execFsqrtd (rd rs1 rs2 : RegNum) (s : State) : Result := fpUnaryDD s 0x02A#9 rd rs1 rs2 (exactSqrt doubleFormat)

/-- FSQRTx (R445). -/
def execFsqrtx (rd rs1 rs2 : RegNum) (s : State) : Result := fpUnaryXX s 0x02B#9 rd rs1 rs2 (nvBit ||| nxBit)

/-- FADDs (R446). -/
def execFadds (rd rs1 rs2 : RegNum) (s : State) : Result := fpBinaryS s 0x041#9 rd rs1 rs2 (exactAdd s.fsr.rd)

/-- FADDd (R447). -/
def execFaddd (rd rs1 rs2 : RegNum) (s : State) : Result := fpBinaryD s 0x042#9 rd rs1 rs2 (exactAdd s.fsr.rd)

/-- FADDx (R448). -/
def execFaddx (rd rs1 rs2 : RegNum) (s : State) : Result :=
  fpBinaryX s 0x043#9 rd rs1 rs2 (ofBit ||| ufBit ||| nvBit ||| nxBit)

/-- FSUBs (R449). -/
def execFsubs (rd rs1 rs2 : RegNum) (s : State) : Result := fpBinaryS s 0x045#9 rd rs1 rs2 (exactSub s.fsr.rd)

/-- FSUBd (R450). -/
def execFsubd (rd rs1 rs2 : RegNum) (s : State) : Result := fpBinaryD s 0x046#9 rd rs1 rs2 (exactSub s.fsr.rd)

/-- FSUBx (R451). -/
def execFsubx (rd rs1 rs2 : RegNum) (s : State) : Result :=
  fpBinaryX s 0x047#9 rd rs1 rs2 (ofBit ||| ufBit ||| nvBit ||| nxBit)

/-- FMULs (R452). -/
def execFmuls (rd rs1 rs2 : RegNum) (s : State) : Result := fpBinaryS s 0x049#9 rd rs1 rs2 exactMul

/-- FMULd (R453). -/
def execFmuld (rd rs1 rs2 : RegNum) (s : State) : Result := fpBinaryD s 0x04A#9 rd rs1 rs2 exactMul

/-- FMULx (R454). -/
def execFmulx (rd rs1 rs2 : RegNum) (s : State) : Result :=
  fpBinaryX s 0x04B#9 rd rs1 rs2 (ofBit ||| ufBit ||| nvBit ||| nxBit)

/-- FDIVs (R455). -/
def execFdivs (rd rs1 rs2 : RegNum) (s : State) : Result := fpBinaryS s 0x04D#9 rd rs1 rs2 (exactDiv singleFormat)

/-- FDIVd (R456). -/
def execFdivd (rd rs1 rs2 : RegNum) (s : State) : Result := fpBinaryD s 0x04E#9 rd rs1 rs2 (exactDiv doubleFormat)

/-- FDIVx (R457). -/
def execFdivx (rd rs1 rs2 : RegNum) (s : State) : Result :=
  fpBinaryX s 0x04F#9 rd rs1 rs2 (ofBit ||| ufBit ||| dzBit ||| nvBit ||| nxBit)

/-- FiTOs (R458). -/
def execFitos (rd rs1 rs2 : RegNum) (s : State) : Result := fpFromIntS s 0x0C4#9 rd rs1 rs2

/-- FiTOd (R459). -/
def execFitod (rd rs1 rs2 : RegNum) (s : State) : Result := fpFromIntD s 0x0C8#9 rd rs1 rs2

/-- FiTOx (R460). -/
def execFitox (rd rs1 rs2 : RegNum) (s : State) : Result := fpUnaryWX s 0x0CC#9 rd rs1 rs2 0#5

/-- FsTOi (R461). -/
def execFstoi (rd rs1 rs2 : RegNum) (s : State) : Result := fpToIntS s 0x0D1#9 rd rs1 rs2

/-- FdTOi (R462). -/
def execFdtoi (rd rs1 rs2 : RegNum) (s : State) : Result := fpToIntD s 0x0D2#9 rd rs1 rs2

/-- FxTOi (R463). -/
def execFxtoi (rd rs1 rs2 : RegNum) (s : State) : Result := fpUnaryXI s 0x0D3#9 rd rs1 rs2 (nvBit ||| nxBit)

/-- FsTOd (R464). -/
def execFstod (rd rs1 rs2 : RegNum) (s : State) : Result := fpUnarySD s 0x0C9#9 rd rs1 rs2 exactOf

/-- FsTOx (R465). -/
def execFstox (rd rs1 rs2 : RegNum) (s : State) : Result := fpUnaryWX s 0x0CD#9 rd rs1 rs2 nvBit

/-- FdTOs (R466). -/
def execFdtos (rd rs1 rs2 : RegNum) (s : State) : Result := fpUnaryDS s 0x0C6#9 rd rs1 rs2 exactOf

/-- FdTOx (R467). -/
def execFdtox (rd rs1 rs2 : RegNum) (s : State) : Result := fpUnaryDX s 0x0CE#9 rd rs1 rs2 nvBit

/-- FxTOs (R468). -/
def execFxtos (rd rs1 rs2 : RegNum) (s : State) : Result :=
  fpUnaryXS s 0x0C7#9 rd rs1 rs2 (ofBit ||| ufBit ||| nvBit ||| nxBit)

/-- FxTOd (R469). -/
def execFxtod (rd rs1 rs2 : RegNum) (s : State) : Result :=
  fpUnaryXD s 0x0CB#9 rd rs1 rs2 (ofBit ||| ufBit ||| nvBit ||| nxBit)

/-- FCMPs (R471). -/
def execFcmps (rd rs1 rs2 : RegNum) (s : State) : Result := fpCompareS s 0x051#9 rd rs1 rs2 false

/-- FCMPd (R472). -/
def execFcmpd (rd rs1 rs2 : RegNum) (s : State) : Result := fpCompareD s 0x052#9 rd rs1 rs2 false

/-- FCMPx (R473). -/
def execFcmpx (rd rs1 rs2 : RegNum) (s : State) : Result := fpCompareX s 0x053#9 rd rs1 rs2 false

/-- FCMPEs (R474). -/
def execFcmpes (rd rs1 rs2 : RegNum) (s : State) : Result := fpCompareS s 0x055#9 rd rs1 rs2 true

/-- FCMPEd (R475). -/
def execFcmped (rd rs1 rs2 : RegNum) (s : State) : Result := fpCompareD s 0x056#9 rd rs1 rs2 true

/-- FCMPEx (R476). -/
def execFcmpex (rd rs1 rs2 : RegNum) (s : State) : Result := fpCompareX s 0x057#9 rd rs1 rs2 true

end Sys2Proof.Machine
end

