-- ==== Sys2Proof/Machine/Arith.lean ====
section
/-! DEFINITION. Add and subtract (`42_arith_logic_shift.md` section 2). -/

namespace Sys2Proof.Machine

open Sys2Proof

/-- The end of an instruction that writes r[rd] (R300). -/
def finish (s : State) (rd : RegNum) (r : Word) : Result := .next (s.setReg rd r).advance

/-- The end of an instruction that writes r[rd] and icc (R300). -/
def finishCc (s : State) (rd : RegNum) (r : Word) (icc : Icc) : Result := .next ((s.setReg rd r).setIcc icc).advance

/-- The carry as a word (R305). -/
def State.carry (s : State) : Word := if s.iccView.c then 1#32 else 0#32

/-- ADD (R303). -/
def execAdd (rd rs1 : RegNum) (src2 : Operand2) (s : State) : Result := finish s rd (s.reg rs1 + s.operand2 src2)

/-- ADDcc (R304). -/
def execAddcc (rd rs1 : RegNum) (src2 : Operand2) (s : State) : Result :=
  let a := s.reg rs1
  let b := s.operand2 src2
  finishCc s rd (a + b) (addFlags a b (a + b))

/-- ADDX (R305). -/
def execAddx (rd rs1 : RegNum) (src2 : Operand2) (s : State) : Result :=
  finish s rd (s.reg rs1 + s.operand2 src2 + s.carry)

/-- ADDXcc (R306). -/
def execAddxcc (rd rs1 : RegNum) (src2 : Operand2) (s : State) : Result :=
  let a := s.reg rs1
  let b := s.operand2 src2
  finishCc s rd (a + b + s.carry) (addFlags a b (a + b + s.carry))

/-- SUB (R308). -/
def execSub (rd rs1 : RegNum) (src2 : Operand2) (s : State) : Result := finish s rd (s.reg rs1 - s.operand2 src2)

/-- SUBcc (R309). -/
def execSubcc (rd rs1 : RegNum) (src2 : Operand2) (s : State) : Result :=
  let a := s.reg rs1
  let b := s.operand2 src2
  finishCc s rd (a - b) (subFlags a b (a - b))

/-- SUBX (R310). -/
def execSubx (rd rs1 : RegNum) (src2 : Operand2) (s : State) : Result :=
  finish s rd (s.reg rs1 - s.operand2 src2 - s.carry)

/-- SUBXcc (R311). -/
def execSubxcc (rd rs1 : RegNum) (src2 : Operand2) (s : State) : Result :=
  let a := s.reg rs1
  let b := s.operand2 src2
  finishCc s rd (a - b - s.carry) (subFlags a b (a - b - s.carry))

end Sys2Proof.Machine
end

