-- ==== Sys2Proof/Machine/LoadStore.lean ====
section
/-! DEFINITION. Integer loads, stores, LDSTUB and SWAP (`40_load_store_integer.md`). -/

namespace Sys2Proof.Machine

open Sys2Proof

/-- A load or store at `x[rs1] + operand2` in the default data space (R200, R201): the alignment test, the
access, then k with the storage and the address. -/
def dataAccess (s : State) (rs1 : RegNum) (src2 : Operand2) (size : Nat) (kind : AccessKind) (k : Nat → Word → Result) : Result :=
  let ea := s.sum rs1 src2
  needAligned s ea size (access s s.dataAsi ea size kind fun storage => k storage ea)

/-- Writes a doubleword to the pair r[rd], r[rd+1] (R203). -/
def State.setPair (s : State) (rd : RegNum) (v : Doubleword) : State :=
  (s.setReg rd (v.extractLsb' 32 32)).setReg (pairOf rd) (v.extractLsb' 0 32)

/-- The pair r[rd], r[rd+1]. -/
def State.pair (s : State) (rd : RegNum) : Doubleword := s.reg rd ++ s.reg (pairOf rd)

/-- LDSB (R210). -/
def execLdsb (rd rs1 : RegNum) (src2 : Operand2) (s : State) : Result :=
  dataAccess s rs1 src2 1 .read fun st ea => finish s rd ((s.mem.byteAt st ea).signExtend 32)

/-- LDSH (R211). -/
def execLdsh (rd rs1 : RegNum) (src2 : Operand2) (s : State) : Result :=
  dataAccess s rs1 src2 2 .read fun st ea => finish s rd ((s.mem.half st ea).signExtend 32)

/-- LDUB (R212). -/
def execLdub (rd rs1 : RegNum) (src2 : Operand2) (s : State) : Result :=
  dataAccess s rs1 src2 1 .read fun st ea => finish s rd ((s.mem.byteAt st ea).setWidth 32)

/-- LDUH (R213). -/
def execLduh (rd rs1 : RegNum) (src2 : Operand2) (s : State) : Result :=
  dataAccess s rs1 src2 2 .read fun st ea => finish s rd ((s.mem.half st ea).setWidth 32)

/-- LD (R214). -/
def execLd (rd rs1 : RegNum) (src2 : Operand2) (s : State) : Result :=
  dataAccess s rs1 src2 4 .read fun st ea => finish s rd (s.mem.word st ea)

/-- LDD (R215). -/
def execLdd (rd rs1 : RegNum) (src2 : Operand2) (s : State) : Result :=
  needPair rd (dataAccess s rs1 src2 8 .read fun st ea => .next (s.setPair rd (s.mem.double st ea)).advance)

/-- STB (R225). -/
def execStb (rd rs1 : RegNum) (src2 : Operand2) (s : State) : Result :=
  dataAccess s rs1 src2 1 .write fun st ea => .next (s.storeByte st ea ((s.reg rd).setWidth 8)).advance

/-- STH (R226). -/
def execSth (rd rs1 : RegNum) (src2 : Operand2) (s : State) : Result :=
  dataAccess s rs1 src2 2 .write fun st ea => .next (s.storeHalf st ea ((s.reg rd).setWidth 16)).advance

/-- ST (R227). -/
def execSt (rd rs1 : RegNum) (src2 : Operand2) (s : State) : Result :=
  dataAccess s rs1 src2 4 .write fun st ea => .next (s.storeWord st ea (s.reg rd)).advance

/-- STD (R228). -/
def execStd (rd rs1 : RegNum) (src2 : Operand2) (s : State) : Result :=
  needPair rd (dataAccess s rs1 src2 8 .write fun st ea => .next (s.storeDouble st ea (s.pair rd)).advance)

/-- LDSTUB (R235): reads the byte and writes 0xFF. -/
def execLdstub (rd rs1 : RegNum) (src2 : Operand2) (s : State) : Result :=
  dataAccess s rs1 src2 1 .rmw fun st ea => finish (s.storeByte st ea 0xFF#8) rd ((s.mem.byteAt st ea).setWidth 32)

/-- SWAP (R237). -/
def execSwap (rd rs1 : RegNum) (src2 : Operand2) (s : State) : Result :=
  dataAccess s rs1 src2 4 .rmw fun st ea => finish (s.storeWord st ea (s.reg rd)) rd (s.mem.word st ea)

end Sys2Proof.Machine
end

