-- ==== Sys2Proof/Machine/LoadStoreAlt.lean ====
section
/-! DEFINITION. Alternate-space loads, stores, LDSTUBA and SWAPA (`40_load_store_integer.md`). -/

namespace Sys2Proof.Machine

open Sys2Proof

/-- An alternate-space access (R200, R202): `AltCheck`, the register pair if one is named, alignment, the
access, then k with the storage and the address. -/
def altAccess (s : State) (rs1 : RegNum) (src2 : Operand2) (pair : Result → Result) (size : Nat) (kind : AccessKind)
    (k : Nat → Word → Result) : Result :=
  altCheck s rs1 src2 fun asi ea => pair (needAligned s ea size (access s asi ea size kind fun storage => k storage ea))

/-- LDSBA (R216). -/
def execLdsba (rd rs1 : RegNum) (src2 : Operand2) (s : State) : Result :=
  altAccess s rs1 src2 id 1 .read fun st ea => finish s rd ((s.mem.byteAt st ea).signExtend 32)

/-- LDSHA (R217). -/
def execLdsha (rd rs1 : RegNum) (src2 : Operand2) (s : State) : Result :=
  altAccess s rs1 src2 id 2 .read fun st ea => finish s rd ((s.mem.half st ea).signExtend 32)

/-- LDUBA (R218). -/
def execLduba (rd rs1 : RegNum) (src2 : Operand2) (s : State) : Result :=
  altAccess s rs1 src2 id 1 .read fun st ea => finish s rd ((s.mem.byteAt st ea).setWidth 32)

/-- LDUHA (R219). -/
def execLduha (rd rs1 : RegNum) (src2 : Operand2) (s : State) : Result :=
  altAccess s rs1 src2 id 2 .read fun st ea => finish s rd ((s.mem.half st ea).setWidth 32)

/-- LDA (R220). -/
def execLda (rd rs1 : RegNum) (src2 : Operand2) (s : State) : Result :=
  altAccess s rs1 src2 id 4 .read fun st ea => finish s rd (s.mem.word st ea)

/-- LDDA (R221). -/
def execLdda (rd rs1 : RegNum) (src2 : Operand2) (s : State) : Result :=
  altAccess s rs1 src2 (needPair rd) 8 .read fun st ea => .next (s.setPair rd (s.mem.double st ea)).advance

/-- STBA (R229). -/
def execStba (rd rs1 : RegNum) (src2 : Operand2) (s : State) : Result :=
  altAccess s rs1 src2 id 1 .write fun st ea => .next (s.storeByte st ea ((s.reg rd).setWidth 8)).advance

/-- STHA (R230). -/
def execStha (rd rs1 : RegNum) (src2 : Operand2) (s : State) : Result :=
  altAccess s rs1 src2 id 2 .write fun st ea => .next (s.storeHalf st ea ((s.reg rd).setWidth 16)).advance

/-- STA (R231). -/
def execSta (rd rs1 : RegNum) (src2 : Operand2) (s : State) : Result :=
  altAccess s rs1 src2 id 4 .write fun st ea => .next (s.storeWord st ea (s.reg rd)).advance

/-- STDA (R232). -/
def execStda (rd rs1 : RegNum) (src2 : Operand2) (s : State) : Result :=
  altAccess s rs1 src2 (needPair rd) 8 .write fun st ea => .next (s.storeDouble st ea (s.pair rd)).advance

/-- LDSTUBA (R236). -/
def execLdstuba (rd rs1 : RegNum) (src2 : Operand2) (s : State) : Result :=
  altAccess s rs1 src2 id 1 .rmw fun st ea => finish (s.storeByte st ea 0xFF#8) rd ((s.mem.byteAt st ea).setWidth 32)

/-- SWAPA (R238). -/
def execSwapa (rd rs1 : RegNum) (src2 : Operand2) (s : State) : Result :=
  altAccess s rs1 src2 id 4 .rmw fun st ea => finish (s.storeWord st ea (s.reg rd)) rd (s.mem.word st ea)

end Sys2Proof.Machine
end

