-- ==== Sys2Proof/Machine/Logic.lean ====
section
/-! DEFINITION. Logical instructions (`42_arith_logic_shift.md` section 3). -/

namespace Sys2Proof.Machine

open Sys2Proof

/-- AND (R312). -/
def execAnd (rd rs1 : RegNum) (src2 : Operand2) (s : State) : Result := finish s rd (s.reg rs1 &&& s.operand2 src2)

/-- ANDcc (R313). -/
def execAndcc (rd rs1 : RegNum) (src2 : Operand2) (s : State) : Result :=
  let r := s.reg rs1 &&& s.operand2 src2
  finishCc s rd r (logicFlags r)

/-- OR (R316). -/
def execOr (rd rs1 : RegNum) (src2 : Operand2) (s : State) : Result := finish s rd (s.reg rs1 ||| s.operand2 src2)

/-- ORcc (R317). -/
def execOrcc (rd rs1 : RegNum) (src2 : Operand2) (s : State) : Result :=
  let r := s.reg rs1 ||| s.operand2 src2
  finishCc s rd r (logicFlags r)

/-- XOR (R320). -/
def execXor (rd rs1 : RegNum) (src2 : Operand2) (s : State) : Result := finish s rd (s.reg rs1 ^^^ s.operand2 src2)

/-- XORcc (R321). -/
def execXorcc (rd rs1 : RegNum) (src2 : Operand2) (s : State) : Result :=
  let r := s.reg rs1 ^^^ s.operand2 src2
  finishCc s rd r (logicFlags r)

/-- ANDN (R314). -/
def execAndn (rd rs1 : RegNum) (src2 : Operand2) (s : State) : Result :=
  finish s rd (s.reg rs1 &&& ~~~s.operand2 src2)

/-- ANDNcc (R315). -/
def execAndncc (rd rs1 : RegNum) (src2 : Operand2) (s : State) : Result :=
  let r := s.reg rs1 &&& ~~~s.operand2 src2
  finishCc s rd r (logicFlags r)

/-- ORN (R318). -/
def execOrn (rd rs1 : RegNum) (src2 : Operand2) (s : State) : Result := finish s rd (s.reg rs1 ||| ~~~s.operand2 src2)

/-- ORNcc (R319). -/
def execOrncc (rd rs1 : RegNum) (src2 : Operand2) (s : State) : Result :=
  let r := s.reg rs1 ||| ~~~s.operand2 src2
  finishCc s rd r (logicFlags r)

/-- XNOR (R322). -/
def execXnor (rd rs1 : RegNum) (src2 : Operand2) (s : State) : Result :=
  finish s rd (~~~(s.reg rs1 ^^^ s.operand2 src2))

/-- XNORcc (R323). -/
def execXnorcc (rd rs1 : RegNum) (src2 : Operand2) (s : State) : Result :=
  let r := ~~~(s.reg rs1 ^^^ s.operand2 src2)
  finishCc s rd r (logicFlags r)

end Sys2Proof.Machine
end

