-- ==== Sys2Proof/Machine/Shift.lean ====
section
/-! DEFINITION. Shifts and SETHI (`42_arith_logic_shift.md` sections 6 and 7). -/

namespace Sys2Proof.Machine

open Sys2Proof

/-- SLL (R336). -/
def execSll (rd rs1 : RegNum) (src2 : Operand2) (s : State) : Result :=
  finish s rd (s.reg rs1 <<< shiftCount (s.operand2 src2))

/-- SRL (R337). -/
def execSrl (rd rs1 : RegNum) (src2 : Operand2) (s : State) : Result :=
  finish s rd (s.reg rs1 >>> shiftCount (s.operand2 src2))

/-- SRA (R338). -/
def execSra (rd rs1 : RegNum) (src2 : Operand2) (s : State) : Result :=
  finish s rd ((s.reg rs1).sshiftRight (shiftCount (s.operand2 src2)))

/-- SETHI (R340). -/
def execSethi (rd : RegNum) (imm22 : BitVec 22) (s : State) : Result := finish s rd (imm22 ++ 0#10)

end Sys2Proof.Machine
end

