-- ==== Sys2Proof/Machine/StateReg.lean ====
section
/-! DEFINITION. State-register reads and writes, UNIMP, IFLUSH (`44_control_registers_misc.md`). -/

namespace Sys2Proof.Machine

open Sys2Proof

/-- RDY (R403). -/
def execRdy (rd _rs1 : RegNum) (_low : BitVec 14) (s : State) : Result := finish s rd s.yView

/-- RDPSR (R404). -/
def execRdpsr (rd _rs1 : RegNum) (_low : BitVec 14) (s : State) : Result := privileged s (finish s rd s.psrRead)

/-- RDWIM (R405). -/
def execRdwim (rd _rs1 : RegNum) (_low : BitVec 14) (s : State) : Result := privileged s (finish s rd s.wimRead)

/-- RDTBR (R406). -/
def execRdtbr (rd _rs1 : RegNum) (_low : BitVec 14) (s : State) : Result := privileged s (finish s rd s.tbrRead)

/-- Writes PSR, WIM, TBR or Y by a WRxxx: at once, with a hazard window of three instructions (R402, R579). -/
def State.writePsr (s : State) (v : Psr) : State := { s.advance with psr := v, psrWrite := s.psrWrite.start s.psr v }
@[inherit_doc State.writePsr] def State.writeWim (s : State) (v : Word) : State :=
  { s.advance with wim := v, wimWrite := s.wimWrite.start s.wim v }
@[inherit_doc State.writePsr] def State.writeTbr (s : State) (v : Word) : State :=
  { s.advance with tbr := v, tbrWrite := s.tbrWrite.start s.tbr v }
@[inherit_doc State.writePsr] def State.writeY (s : State) (v : Word) : State :=
  { s.advance with y := v, yWrite := s.yWrite.start s.y v }

/-- WRY (R407). -/
def execWry (_rd rs1 : RegNum) (src2 : Operand2) (s : State) : Result := .next (s.writeY (s.writeValue rs1 src2))

/-- WRPSR (R408): the window test comes before the privilege test. -/
def execWrpsr (_rd rs1 : RegNum) (src2 : Operand2) (s : State) : Result :=
  let v := s.writeValue rs1 src2
  if Config.nWindows ≤ (v.extractLsb' 0 5).toNat then raise s .illegalInstruction
  else privileged s (.next (s.writePsr (Psr.ofWord v)))

/-- WRWIM (R409): bits 7:0. -/
def execWrwim (_rd rs1 : RegNum) (src2 : Operand2) (s : State) : Result :=
  privileged s (.next (s.writeWim (((s.writeValue rs1 src2).extractLsb' 0 8).setWidth 32)))

/-- WRTBR (R410): TBA; tt is kept. -/
def execWrtbr (_rd rs1 : RegNum) (src2 : Operand2) (s : State) : Result :=
  privileged s (.next (s.writeTbr (tbrWord (tbaOf (s.writeValue rs1 src2)) (ttOf s.tbr))))

/-- UNIMP (R412). -/
def execUnimp (_rd : RegNum) (_const22 : BitVec 22) (s : State) : Result := raise s .illegalInstruction

/-- IFLUSH (R411): the address is not used. -/
def execIflush (_rd _rs1 : RegNum) (_src2 : Operand2) (s : State) : Result :=
  if s.platform.ift then .next s.advance else raise s .illegalInstruction

end Sys2Proof.Machine
end

