-- ==== Sys2Proof/Machine/Tagged.lean ====
section
/-! DEFINITION. Tagged arithmetic and the multiply step (`42_arith_logic_shift.md` sections 4 and 5). -/

namespace Sys2Proof.Machine

open Sys2Proof

/-- TADDcc (R325). -/
def execTaddcc (rd rs1 : RegNum) (src2 : Operand2) (s : State) : Result :=
  let a := s.reg rs1
  let b := s.operand2 src2
  finishCc s rd (a + b) ((addFlags a b (a + b)).orOverflow (tagBad a b))

/-- TSUBcc (R326). -/
def execTsubcc (rd rs1 : RegNum) (src2 : Operand2) (s : State) : Result :=
  let a := s.reg rs1
  let b := s.operand2 src2
  finishCc s rd (a - b) ((subFlags a b (a - b)).orOverflow (tagBad a b))

/-- TADDccTV (R327). -/
def execTaddcctv (rd rs1 : RegNum) (src2 : Operand2) (s : State) : Result :=
  let a := s.reg rs1
  let b := s.operand2 src2
  let icc := (addFlags a b (a + b)).orOverflow (tagBad a b)
  if icc.v then raise s .tagOverflow else finishCc s rd (a + b) icc

/-- TSUBccTV (R328). -/
def execTsubcctv (rd rs1 : RegNum) (src2 : Operand2) (s : State) : Result :=
  let a := s.reg rs1
  let b := s.operand2 src2
  let icc := (subFlags a b (a - b)).orOverflow (tagBad a b)
  if icc.v then raise s .tagOverflow else finishCc s rd (a - b) icc

/-- MULScc (R330): the shifted partial sum, the multiplicand where Y[0] = 1, and the new Y. -/
def execMulscc (rd rs1 : RegNum) (src2 : Operand2) (s : State) : Result :=
  let a := s.reg rs1
  let y := s.yView
  let icc := s.iccView
  let op1 : Word := BitVec.ofBool (icc.n ^^ icc.v) ++ a.extractLsb' 1 31
  let op2 : Word := if y.getLsbD 0 then s.operand2 src2 else 0#32
  let newY : Word := BitVec.ofBool (a.getLsbD 0) ++ y.extractLsb' 1 31
  finishCc { s with y := newY } rd (op1 + op2) (addFlags op1 op2 (op1 + op2))

end Sys2Proof.Machine
end

