-- ==== Sys2Proof/Machine/Window.lean ====
section
/-! DEFINITION. SAVE and RESTORE (`42_arith_logic_shift.md` section 8). -/

namespace Sys2Proof.Machine

open Sys2Proof

/-- What SAVE and RESTORE share (R344): the window entered is tested, the sum is formed in the old window
and written in the new one. -/
def changeWindow (s : State) (window : BitVec 5) (invalid : Trap) (rd rs1 : RegNum) (src2 : Operand2) : Result :=
  if s.windowInvalid window then raise s invalid
  else .next ((s.setCwp window).setRegIn window rd (s.sum rs1 src2)).advance

/-- SAVE (R345). -/
def execSave (rd rs1 : RegNum) (src2 : Operand2) (s : State) : Result :=
  changeWindow s (prevWindow s.cwpView) .windowOverflow rd rs1 src2

/-- RESTORE (R346). -/
def execRestore (rd rs1 : RegNum) (src2 : Operand2) (s : State) : Result :=
  changeWindow s (nextWindow s.cwpView) .windowUnderflow rd rs1 src2

end Sys2Proof.Machine
end

