-- ==== Sys2Proof/Machine/Dispatch.lean ====
section
/-! DEFINITION. Execution: one arm per instruction, each one call of its meaning. -/

namespace Sys2Proof.Machine

open Sys2Proof

def exec (i : Instr) (s : State) : Host.Outcome State Fault Refusal :=
  match i with
  | .call disp30 => Sys2Proof.Machine.execCall disp30 s
  | .unimp rd const22 => Sys2Proof.Machine.execUnimp rd const22 s
  | .sethi rd imm22 => Sys2Proof.Machine.execSethi rd imm22 s
  | .bn a disp22 => Sys2Proof.Machine.execBn a disp22 s
  | .be a disp22 => Sys2Proof.Machine.execBe a disp22 s
  | .ble a disp22 => Sys2Proof.Machine.execBle a disp22 s
  | .bl a disp22 => Sys2Proof.Machine.execBl a disp22 s
  | .bleu a disp22 => Sys2Proof.Machine.execBleu a disp22 s
  | .bcs a disp22 => Sys2Proof.Machine.execBcs a disp22 s
  | .bneg a disp22 => Sys2Proof.Machine.execBneg a disp22 s
  | .bvs a disp22 => Sys2Proof.Machine.execBvs a disp22 s
  | .ba a disp22 => Sys2Proof.Machine.execBa a disp22 s
  | .bne a disp22 => Sys2Proof.Machine.execBne a disp22 s
  | .bg a disp22 => Sys2Proof.Machine.execBg a disp22 s
  | .bge a disp22 => Sys2Proof.Machine.execBge a disp22 s
  | .bgu a disp22 => Sys2Proof.Machine.execBgu a disp22 s
  | .bcc a disp22 => Sys2Proof.Machine.execBcc a disp22 s
  | .bpos a disp22 => Sys2Proof.Machine.execBpos a disp22 s
  | .bvc a disp22 => Sys2Proof.Machine.execBvc a disp22 s
  | .fbn a disp22 => Sys2Proof.Machine.execFbn a disp22 s
  | .fbne a disp22 => Sys2Proof.Machine.execFbne a disp22 s
  | .fblg a disp22 => Sys2Proof.Machine.execFblg a disp22 s
  | .fbul a disp22 => Sys2Proof.Machine.execFbul a disp22 s
  | .fbl a disp22 => Sys2Proof.Machine.execFbl a disp22 s
  | .fbug a disp22 => Sys2Proof.Machine.execFbug a disp22 s
  | .fbg a disp22 => Sys2Proof.Machine.execFbg a disp22 s
  | .fbu a disp22 => Sys2Proof.Machine.execFbu a disp22 s
  | .fba a disp22 => Sys2Proof.Machine.execFba a disp22 s
  | .fbe a disp22 => Sys2Proof.Machine.execFbe a disp22 s
  | .fbue a disp22 => Sys2Proof.Machine.execFbue a disp22 s
  | .fbge a disp22 => Sys2Proof.Machine.execFbge a disp22 s
  | .fbuge a disp22 => Sys2Proof.Machine.execFbuge a disp22 s
  | .fble a disp22 => Sys2Proof.Machine.execFble a disp22 s
  | .fbule a disp22 => Sys2Proof.Machine.execFbule a disp22 s
  | .fbo a disp22 => Sys2Proof.Machine.execFbo a disp22 s
  | .cbn a disp22 => Sys2Proof.Machine.execCbn a disp22 s
  | .cb123 a disp22 => Sys2Proof.Machine.execCb123 a disp22 s
  | .cb12 a disp22 => Sys2Proof.Machine.execCb12 a disp22 s
  | .cb13 a disp22 => Sys2Proof.Machine.execCb13 a disp22 s
  | .cb1 a disp22 => Sys2Proof.Machine.execCb1 a disp22 s
  | .cb23 a disp22 => Sys2Proof.Machine.execCb23 a disp22 s
  | .cb2 a disp22 => Sys2Proof.Machine.execCb2 a disp22 s
  | .cb3 a disp22 => Sys2Proof.Machine.execCb3 a disp22 s
  | .cba a disp22 => Sys2Proof.Machine.execCba a disp22 s
  | .cb0 a disp22 => Sys2Proof.Machine.execCb0 a disp22 s
  | .cb03 a disp22 => Sys2Proof.Machine.execCb03 a disp22 s
  | .cb02 a disp22 => Sys2Proof.Machine.execCb02 a disp22 s
  | .cb023 a disp22 => Sys2Proof.Machine.execCb023 a disp22 s
  | .cb01 a disp22 => Sys2Proof.Machine.execCb01 a disp22 s
  | .cb013 a disp22 => Sys2Proof.Machine.execCb013 a disp22 s
  | .cb012 a disp22 => Sys2Proof.Machine.execCb012 a disp22 s
  | .add rd rs1 src2 => Sys2Proof.Machine.execAdd rd rs1 src2 s
  | .and rd rs1 src2 => Sys2Proof.Machine.execAnd rd rs1 src2 s
  | .or rd rs1 src2 => Sys2Proof.Machine.execOr rd rs1 src2 s
  | .xor rd rs1 src2 => Sys2Proof.Machine.execXor rd rs1 src2 s
  | .sub rd rs1 src2 => Sys2Proof.Machine.execSub rd rs1 src2 s
  | .andn rd rs1 src2 => Sys2Proof.Machine.execAndn rd rs1 src2 s
  | .orn rd rs1 src2 => Sys2Proof.Machine.execOrn rd rs1 src2 s
  | .xnor rd rs1 src2 => Sys2Proof.Machine.execXnor rd rs1 src2 s
  | .addx rd rs1 src2 => Sys2Proof.Machine.execAddx rd rs1 src2 s
  | .subx rd rs1 src2 => Sys2Proof.Machine.execSubx rd rs1 src2 s
  | .addcc rd rs1 src2 => Sys2Proof.Machine.execAddcc rd rs1 src2 s
  | .andcc rd rs1 src2 => Sys2Proof.Machine.execAndcc rd rs1 src2 s
  | .orcc rd rs1 src2 => Sys2Proof.Machine.execOrcc rd rs1 src2 s
  | .xorcc rd rs1 src2 => Sys2Proof.Machine.execXorcc rd rs1 src2 s
  | .subcc rd rs1 src2 => Sys2Proof.Machine.execSubcc rd rs1 src2 s
  | .andncc rd rs1 src2 => Sys2Proof.Machine.execAndncc rd rs1 src2 s
  | .orncc rd rs1 src2 => Sys2Proof.Machine.execOrncc rd rs1 src2 s
  | .xnorcc rd rs1 src2 => Sys2Proof.Machine.execXnorcc rd rs1 src2 s
  | .addxcc rd rs1 src2 => Sys2Proof.Machine.execAddxcc rd rs1 src2 s
  | .subxcc rd rs1 src2 => Sys2Proof.Machine.execSubxcc rd rs1 src2 s
  | .taddcc rd rs1 src2 => Sys2Proof.Machine.execTaddcc rd rs1 src2 s
  | .tsubcc rd rs1 src2 => Sys2Proof.Machine.execTsubcc rd rs1 src2 s
  | .taddcctv rd rs1 src2 => Sys2Proof.Machine.execTaddcctv rd rs1 src2 s
  | .tsubcctv rd rs1 src2 => Sys2Proof.Machine.execTsubcctv rd rs1 src2 s
  | .mulscc rd rs1 src2 => Sys2Proof.Machine.execMulscc rd rs1 src2 s
  | .sll rd rs1 src2 => Sys2Proof.Machine.execSll rd rs1 src2 s
  | .srl rd rs1 src2 => Sys2Proof.Machine.execSrl rd rs1 src2 s
  | .sra rd rs1 src2 => Sys2Proof.Machine.execSra rd rs1 src2 s
  | .rdy rd rs1 low => Sys2Proof.Machine.execRdy rd rs1 low s
  | .rdpsr rd rs1 low => Sys2Proof.Machine.execRdpsr rd rs1 low s
  | .rdwim rd rs1 low => Sys2Proof.Machine.execRdwim rd rs1 low s
  | .rdtbr rd rs1 low => Sys2Proof.Machine.execRdtbr rd rs1 low s
  | .wry rd rs1 src2 => Sys2Proof.Machine.execWry rd rs1 src2 s
  | .wrpsr rd rs1 src2 => Sys2Proof.Machine.execWrpsr rd rs1 src2 s
  | .wrwim rd rs1 src2 => Sys2Proof.Machine.execWrwim rd rs1 src2 s
  | .wrtbr rd rs1 src2 => Sys2Proof.Machine.execWrtbr rd rs1 src2 s
  | .fmovs rd rs1 rs2 => Sys2Proof.Machine.execFmovs rd rs1 rs2 s
  | .fnegs rd rs1 rs2 => Sys2Proof.Machine.execFnegs rd rs1 rs2 s
  | .fabss rd rs1 rs2 => Sys2Proof.Machine.execFabss rd rs1 rs2 s
  | .fsqrts rd rs1 rs2 => Sys2Proof.Machine.execFsqrts rd rs1 rs2 s
  | .fsqrtd rd rs1 rs2 => Sys2Proof.Machine.execFsqrtd rd rs1 rs2 s
  | .fsqrtx rd rs1 rs2 => Sys2Proof.Machine.execFsqrtx rd rs1 rs2 s
  | .fadds rd rs1 rs2 => Sys2Proof.Machine.execFadds rd rs1 rs2 s
  | .faddd rd rs1 rs2 => Sys2Proof.Machine.execFaddd rd rs1 rs2 s
  | .faddx rd rs1 rs2 => Sys2Proof.Machine.execFaddx rd rs1 rs2 s
  | .fsubs rd rs1 rs2 => Sys2Proof.Machine.execFsubs rd rs1 rs2 s
  | .fsubd rd rs1 rs2 => Sys2Proof.Machine.execFsubd rd rs1 rs2 s
  | .fsubx rd rs1 rs2 => Sys2Proof.Machine.execFsubx rd rs1 rs2 s
  | .fmuls rd rs1 rs2 => Sys2Proof.Machine.execFmuls rd rs1 rs2 s
  | .fmuld rd rs1 rs2 => Sys2Proof.Machine.execFmuld rd rs1 rs2 s
  | .fmulx rd rs1 rs2 => Sys2Proof.Machine.execFmulx rd rs1 rs2 s
  | .fdivs rd rs1 rs2 => Sys2Proof.Machine.execFdivs rd rs1 rs2 s
  | .fdivd rd rs1 rs2 => Sys2Proof.Machine.execFdivd rd rs1 rs2 s
  | .fdivx rd rs1 rs2 => Sys2Proof.Machine.execFdivx rd rs1 rs2 s
  | .fitos rd rs1 rs2 => Sys2Proof.Machine.execFitos rd rs1 rs2 s
  | .fitod rd rs1 rs2 => Sys2Proof.Machine.execFitod rd rs1 rs2 s
  | .fitox rd rs1 rs2 => Sys2Proof.Machine.execFitox rd rs1 rs2 s
  | .fstoi rd rs1 rs2 => Sys2Proof.Machine.execFstoi rd rs1 rs2 s
  | .fdtoi rd rs1 rs2 => Sys2Proof.Machine.execFdtoi rd rs1 rs2 s
  | .fxtoi rd rs1 rs2 => Sys2Proof.Machine.execFxtoi rd rs1 rs2 s
  | .fstod rd rs1 rs2 => Sys2Proof.Machine.execFstod rd rs1 rs2 s
  | .fstox rd rs1 rs2 => Sys2Proof.Machine.execFstox rd rs1 rs2 s
  | .fdtos rd rs1 rs2 => Sys2Proof.Machine.execFdtos rd rs1 rs2 s
  | .fdtox rd rs1 rs2 => Sys2Proof.Machine.execFdtox rd rs1 rs2 s
  | .fxtos rd rs1 rs2 => Sys2Proof.Machine.execFxtos rd rs1 rs2 s
  | .fxtod rd rs1 rs2 => Sys2Proof.Machine.execFxtod rd rs1 rs2 s
  | .fcmps rd rs1 rs2 => Sys2Proof.Machine.execFcmps rd rs1 rs2 s
  | .fcmpd rd rs1 rs2 => Sys2Proof.Machine.execFcmpd rd rs1 rs2 s
  | .fcmpx rd rs1 rs2 => Sys2Proof.Machine.execFcmpx rd rs1 rs2 s
  | .fcmpes rd rs1 rs2 => Sys2Proof.Machine.execFcmpes rd rs1 rs2 s
  | .fcmped rd rs1 rs2 => Sys2Proof.Machine.execFcmped rd rs1 rs2 s
  | .fcmpex rd rs1 rs2 => Sys2Proof.Machine.execFcmpex rd rs1 rs2 s
  | .cpop1 opc rd rs1 rs2 => Sys2Proof.Machine.execCpop1 opc rd rs1 rs2 s
  | .cpop2 opc rd rs1 rs2 => Sys2Proof.Machine.execCpop2 opc rd rs1 rs2 s
  | .jmpl rd rs1 src2 => Sys2Proof.Machine.execJmpl rd rs1 src2 s
  | .rett rd rs1 src2 => Sys2Proof.Machine.execRett rd rs1 src2 s
  | .tn ign rs1 src2 => Sys2Proof.Machine.execTn ign rs1 src2 s
  | .te ign rs1 src2 => Sys2Proof.Machine.execTe ign rs1 src2 s
  | .tle ign rs1 src2 => Sys2Proof.Machine.execTle ign rs1 src2 s
  | .tl ign rs1 src2 => Sys2Proof.Machine.execTl ign rs1 src2 s
  | .tleu ign rs1 src2 => Sys2Proof.Machine.execTleu ign rs1 src2 s
  | .tcs ign rs1 src2 => Sys2Proof.Machine.execTcs ign rs1 src2 s
  | .tneg ign rs1 src2 => Sys2Proof.Machine.execTneg ign rs1 src2 s
  | .tvs ign rs1 src2 => Sys2Proof.Machine.execTvs ign rs1 src2 s
  | .ta ign rs1 src2 => Sys2Proof.Machine.execTa ign rs1 src2 s
  | .tne ign rs1 src2 => Sys2Proof.Machine.execTne ign rs1 src2 s
  | .tg ign rs1 src2 => Sys2Proof.Machine.execTg ign rs1 src2 s
  | .tge ign rs1 src2 => Sys2Proof.Machine.execTge ign rs1 src2 s
  | .tgu ign rs1 src2 => Sys2Proof.Machine.execTgu ign rs1 src2 s
  | .tcc ign rs1 src2 => Sys2Proof.Machine.execTcc ign rs1 src2 s
  | .tpos ign rs1 src2 => Sys2Proof.Machine.execTpos ign rs1 src2 s
  | .tvc ign rs1 src2 => Sys2Proof.Machine.execTvc ign rs1 src2 s
  | .iflush rd rs1 src2 => Sys2Proof.Machine.execIflush rd rs1 src2 s
  | .save rd rs1 src2 => Sys2Proof.Machine.execSave rd rs1 src2 s
  | .restore rd rs1 src2 => Sys2Proof.Machine.execRestore rd rs1 src2 s
  | .ld rd rs1 src2 => Sys2Proof.Machine.execLd rd rs1 src2 s
  | .ldub rd rs1 src2 => Sys2Proof.Machine.execLdub rd rs1 src2 s
  | .lduh rd rs1 src2 => Sys2Proof.Machine.execLduh rd rs1 src2 s
  | .ldd rd rs1 src2 => Sys2Proof.Machine.execLdd rd rs1 src2 s
  | .st rd rs1 src2 => Sys2Proof.Machine.execSt rd rs1 src2 s
  | .stb rd rs1 src2 => Sys2Proof.Machine.execStb rd rs1 src2 s
  | .sth rd rs1 src2 => Sys2Proof.Machine.execSth rd rs1 src2 s
  | .std rd rs1 src2 => Sys2Proof.Machine.execStd rd rs1 src2 s
  | .ldsb rd rs1 src2 => Sys2Proof.Machine.execLdsb rd rs1 src2 s
  | .ldsh rd rs1 src2 => Sys2Proof.Machine.execLdsh rd rs1 src2 s
  | .ldstub rd rs1 src2 => Sys2Proof.Machine.execLdstub rd rs1 src2 s
  | .swap rd rs1 src2 => Sys2Proof.Machine.execSwap rd rs1 src2 s
  | .lda rd rs1 src2 => Sys2Proof.Machine.execLda rd rs1 src2 s
  | .lduba rd rs1 src2 => Sys2Proof.Machine.execLduba rd rs1 src2 s
  | .lduha rd rs1 src2 => Sys2Proof.Machine.execLduha rd rs1 src2 s
  | .ldda rd rs1 src2 => Sys2Proof.Machine.execLdda rd rs1 src2 s
  | .sta rd rs1 src2 => Sys2Proof.Machine.execSta rd rs1 src2 s
  | .stba rd rs1 src2 => Sys2Proof.Machine.execStba rd rs1 src2 s
  | .stha rd rs1 src2 => Sys2Proof.Machine.execStha rd rs1 src2 s
  | .stda rd rs1 src2 => Sys2Proof.Machine.execStda rd rs1 src2 s
  | .ldsba rd rs1 src2 => Sys2Proof.Machine.execLdsba rd rs1 src2 s
  | .ldsha rd rs1 src2 => Sys2Proof.Machine.execLdsha rd rs1 src2 s
  | .ldstuba rd rs1 src2 => Sys2Proof.Machine.execLdstuba rd rs1 src2 s
  | .swapa rd rs1 src2 => Sys2Proof.Machine.execSwapa rd rs1 src2 s
  | .ldf rd rs1 src2 => Sys2Proof.Machine.execLdf rd rs1 src2 s
  | .ldfsr rd rs1 src2 => Sys2Proof.Machine.execLdfsr rd rs1 src2 s
  | .lddf rd rs1 src2 => Sys2Proof.Machine.execLddf rd rs1 src2 s
  | .stf rd rs1 src2 => Sys2Proof.Machine.execStf rd rs1 src2 s
  | .stfsr rd rs1 src2 => Sys2Proof.Machine.execStfsr rd rs1 src2 s
  | .stdfq rd rs1 src2 => Sys2Proof.Machine.execStdfq rd rs1 src2 s
  | .stdf rd rs1 src2 => Sys2Proof.Machine.execStdf rd rs1 src2 s
  | .ldc rd rs1 src2 => Sys2Proof.Machine.execLdc rd rs1 src2 s
  | .ldcsr rd rs1 src2 => Sys2Proof.Machine.execLdcsr rd rs1 src2 s
  | .lddc rd rs1 src2 => Sys2Proof.Machine.execLddc rd rs1 src2 s
  | .stc rd rs1 src2 => Sys2Proof.Machine.execStc rd rs1 src2 s
  | .stcsr rd rs1 src2 => Sys2Proof.Machine.execStcsr rd rs1 src2 s
  | .stdcq rd rs1 src2 => Sys2Proof.Machine.execStdcq rd rs1 src2 s
  | .stdc rd rs1 src2 => Sys2Proof.Machine.execStdc rd rs1 src2 s

end Sys2Proof.Machine
end

