-- ==== Sys2Proof/Machine/Step.lean ====
section
/-! DEFINITION. The step of the machine, and an instruction placed where it fetches next. -/

namespace Sys2Proof.Machine

open Sys2Proof

/-- One step (`10_state.md` R30). -/
def step (s : State) : Host.Outcome State Fault Refusal := stepWith exec s

/-- s with the instruction whose bits are w (`nbits` of them, the rest zero) in memory at PC, in the
instruction space step fetches from (log 34). -/
def State.withFetchWord (s : State) (nbits w : Nat) : State := s.placeAtFetch (BitVec.ofNat 32 (w % 2 ^ nbits))

end Sys2Proof.Machine
end

