-- ==== Sys2Proof/Safety.lean ====
section
/-! DEFINITION. What counts as a safe run, and the words the statements use: the invariant of a running
machine, what an instruction leaves unchanged, the effect of a trap (`60_exceptions.md` R520, R525). -/

namespace Sys2Proof.Machine

open Sys2Proof

/-! ## Runs -/

/-- A word is a multiple of 4. -/
def isAligned (a : Word) : Prop := a.toNat % 4 = 0

/-- The parts of the state that the spec fixes the shape of: PC and nPC are multiples of 4 (`10_state.md`
R41); G[0] is 0 (R33); CWP names a window (R45); WIM bits 31:8 and TBR bits 3:0 are 0 (R48, R49); qne says
whether the queue is empty (R56, R58), and the queue is empty in execute mode only (R59); hazard windows are
three instructions at most (R579); memory is in its canonical form. -/
structure State.Inv (s : State) : Prop where
  pcAligned : isAligned s.pc
  npcAligned : isAligned s.npc
  globalZero : s.g.get 0 = 0#32
  cwpInRange : s.psr.cwp.toNat < Config.nWindows
  wimBits : s.wim.toNat < 2 ^ 8
  tbrBits : s.tbr.toNat % 2 ^ 4 = 0
  qne : s.fsr.qne = true ↔ s.fq ≠ []
  fpuMode : s.fpuMode = .execute ↔ s.fq = []
  windows : s.psrWrite.left ≤ 3 ∧ s.wimWrite.left ≤ 3 ∧ s.tbrWrite.left ≤ 3 ∧ s.yWrite.left ≤ 3
  memory : Memory.wf s.mem = true

/-- A run of k steps from s that ends in t, every one of them answering a next state. -/
def runsTo : Nat → State → State → Prop
  | 0, s, t => s = t
  | k + 1, s, t => ∃ m, step s = .next m ∧ runsTo k m t

/-- The first k steps from s meet no fault and no refusal. -/
def safeFor (k : Nat) (s : State) : Prop := ∃ t, runsTo k s t

/-! ## Completion and frames -/

/-- A meaning answers a next state, and P holds of it. -/
def completes (r : Result) (P : State → Prop) : Prop := ∃ t, r = .next t ∧ P t

/-- The number of the physical register that r[n] is in a window, globals first (`10_state.md` R32). -/
def physical (cwp : BitVec 5) (n : RegNum) : Nat :=
  if n.toNat < 8 then n.toNat
  else if n.toNat < 16 then 8 + (16 * cwp.toNat + (n.toNat - 8)) % 128
  else if n.toNat < 24 then 8 + (16 * cwp.toNat + 8 + (n.toNat - 16)) % 128
  else 8 + (16 * cwp.toNat + 16 + (n.toNat - 24)) % 128

/-- In every window every register is what it was, but for r[rd] of `window`, which holds v; nothing is
written when rd is 0 (R32, R33). -/
def writesReg (s t : State) (window : BitVec 5) (rd : RegNum) (v : Word) : Prop :=
  ∀ w n, t.regIn w n = if rd ≠ 0 ∧ physical w n = physical window rd then v else s.regIn w n

/-- The same for the pair r[rd], r[rd+1] of `window`, rd even. -/
def writesPair (s t : State) (window : BitVec 5) (rd : RegNum) (hi lo : Word) : Prop :=
  ∀ w n, t.regIn w n =
    if physical w n = physical window (rd + 1) then lo
    else if rd ≠ 0 ∧ physical w n = physical window rd then hi else s.regIn w n

/-- Every integer register is unchanged, in every window. -/
def keepsRegs (s t : State) : Prop := ∀ w n, t.regIn w n = s.regIn w n

/-- WIM, TBR and Y are unchanged. -/
def keepsControl (s t : State) : Prop := t.wim = s.wim ∧ t.tbr = s.tbr ∧ t.y = s.y

/-- The FPU is unchanged: f registers, FSR, queue, mode. -/
def keepsFpu (s t : State) : Prop := t.f = s.f ∧ t.fsr = s.fsr ∧ t.fq = s.fq ∧ t.fpuMode = s.fpuMode

/-- Every byte of memory reads as before. -/
def keepsMemory (s t : State) : Prop := ∀ key, Memory.read t.mem key = Memory.read s.mem key

/-- The platform's data and error mode are unchanged. -/
def keepsOutside (s t : State) : Prop := t.platform = s.platform ∧ t.inputs = s.inputs ∧ t.errorMode = s.errorMode

/-- Everything but the integer registers, the PSR, PC and nPC is unchanged. -/
def keepsRest (s t : State) : Prop :=
  keepsControl s t ∧ keepsFpu s t ∧ t.cp = s.cp ∧ keepsMemory s t ∧ keepsOutside s t

/-- PC and nPC after `advance` (R42). -/
def advanced (s t : State) : Prop := t.pc = s.npc ∧ t.npc = s.npc + 4

/-- The whole effect of an integer instruction: r[rd] of the current window, icc, PC and nPC. -/
def aluEffect (s : State) (rd : RegNum) (r : Word) (icc : Icc) (t : State) : Prop :=
  writesReg s t s.cwpView rd r ∧ t.psr = { s.psr with icc := icc } ∧ keepsRest s t ∧ advanced s t

/-! ## Memory -/

/-- The n bytes at an address, the most significant first, as a number (`20_memory.md` R93). -/
def bytesAt (m : Memory) (storage : Nat) (a : Word) : Nat → Nat
  | 0 => 0
  | n + 1 => 256 * bytesAt m storage a n + (Memory.byteAt m storage (a + BitVec.ofNat 32 n)).toNat

/-- Memory is what it was, but for n bytes at an address, which hold v, the most significant first. -/
def storesBytes (s t : State) (storage : Nat) (a : Word) (n v : Nat) : Prop :=
  (∀ k, k < n → (Memory.byteAt t.mem storage (a + BitVec.ofNat 32 k)).toNat = v / 256 ^ (n - 1 - k) % 256) ∧
  ∀ key, (∀ k, k < n → key ≠ memKey storage (a + BitVec.ofNat 32 k)) → Memory.read t.mem key = Memory.read s.mem key

/-- A number of n bytes as a two's-complement integer. -/
def signedBytes (n v : Nat) : Int := if 2 * v < 256 ^ n then (v : Int) else (v : Int) - 256 ^ n

/-- The storage of the data space of the mode (R96). -/
def State.dataStorage (s : State) : Nat := if s.supervisor then s.platform.superData else s.platform.userData

/-- An access to the data space of the mode is aligned and not refused (R98, R106). -/
def dataAllowed (s : State) (a : Word) (size : Nat) (kind : AccessKind) : Prop :=
  a.toNat % size = 0 ∧ s.platform.memFault s.dataAsi a size kind = false

/-- An alternate-space access is aligned, not refused, and reaches a storage (R98, R106, U25). -/
def alternateAllowed (s : State) (asi : BitVec 8) (a : Word) (size : Nat) (kind : AccessKind) (storage : Nat) : Prop :=
  a.toNat % size = 0 ∧ s.platform.memFault asi a size kind = false ∧ s.platform.storageOf asi = some storage

/-- Everything but memory, PC and nPC is unchanged by an integer store. -/
def storeFrame (s t : State) : Prop :=
  keepsRegs s t ∧ t.psr = s.psr ∧ keepsControl s t ∧ keepsFpu s t ∧ t.cp = s.cp ∧ keepsOutside s t ∧ advanced s t

/-! ## Traps -/

/-- The effect of a synchronous trap condition of type tt met in the state s. With ET = 1 it is trap entry
(R520): ET, PS, S, CWP, r[17] and r[18] of the new window, TBR.tt, PC and nPC; with ET = 0 error mode (R525).
Nothing else changes. Where a WRTBR's window is open the vector uses the old or the new TBA (R582). -/
def trapsTo (s : State) (tt : BitVec 8) (t : State) : Prop :=
  tbaOf t.tbr = tbaOf s.tbr ∧ ttOf t.tbr = tt ∧ t.wim = s.wim ∧ t.y = s.y ∧ keepsFpu s t ∧ t.cp = s.cp ∧ keepsMemory s t ∧
  t.platform = s.platform ∧ t.inputs = s.inputs ∧
  if s.trapsEnabled then
    t.psr = { s.psr with et := false, ps := s.psr.s, s := true, cwp := t.psr.cwp } ∧
    t.psr.cwp.toNat = (s.psr.cwp.toNat + 7) % 8 ∧
    (∀ w n, t.regIn w n =
      if physical w n = physical t.psr.cwp 17#5 then s.pc
      else if physical w n = physical t.psr.cwp 18#5 then s.npc else s.regIn w n) ∧
    (t.pc.toNat = (tbaOf s.tbr).toNat * 4096 + tt.toNat * 16 ∨
      0 < s.tbrWrite.left ∧ t.pc.toNat = (tbaOf s.tbrWrite.old).toNat * 4096 + tt.toNat * 16) ∧
    t.npc = t.pc + 4 ∧ t.errorMode = s.errorMode
  else
    t.psr = s.psr ∧ keepsRegs s t ∧ t.pc = s.pc ∧ t.npc = s.npc ∧ t.errorMode = true

/-- The next state is that of a trap taken at the instruction of s, or of error mode. -/
def trapped (s t : State) : Prop := ∃ (u : State) (tr : Trap), t = u.trap tr ∧ u.pc = s.pc ∧ u.npc = s.npc ∧ u.psr = s.psr

/-! ## Floating point -/

/-- The FPU runs FPops: enabled, present, no exception pending or being handled (R432). -/
def fpuReady (s : State) : Prop := s.efView = true ∧ s.platform.fpuPresent = true ∧ s.fpuMode = .execute

/-- f[r] holds v and no other f register changed. -/
def writesF (s t : State) (r : RegNum) (v : Word) : Prop := ∀ k, t.freg k = if k = r then v else s.freg k

/-- f[r], f[r+1] hold v, the most significant word first, and no other f register changed. -/
def writesFPair (s t : State) (r : RegNum) (v : Doubleword) : Prop :=
  ∀ k, t.freg k = if k = r then v.extractLsb' 32 32 else if k = r + 1 then v.extractLsb' 0 32 else s.freg k

/-- f[r], f[r+1], f[r+2] hold v, the most significant word first, and no other f register changed. -/
def writesFTriple (s t : State) (r : RegNum) (v : BitVec 96) : Prop :=
  ∀ k, t.freg k =
    if k = r then v.extractLsb' 64 32 else if k = r + 1 then v.extractLsb' 32 32
    else if k = r + 2 then v.extractLsb' 0 32 else s.freg k

/-- Everything but the FPU, PC and nPC is unchanged. -/
def fpuFrame (s t : State) : Prop :=
  keepsRegs s t ∧ t.psr = s.psr ∧ keepsControl s t ∧ t.cp = s.cp ∧ keepsMemory s t ∧ keepsOutside s t ∧ advanced s t

/-- An FPop completes: cexc, aexc and ftt by the exceptions raised, fcc as given; queue and mode as before; the
rest of the machine unchanged (R432). -/
def fpopDone (s : State) (texc : BitVec 5) (fcc : BitVec 2) (t : State) : Prop :=
  t.fsr = { s.fsr with cexc := texc, aexc := s.fsr.aexc ||| texc, ftt := 0, fcc := fcc } ∧ t.fq = s.fq ∧
  t.fpuMode = s.fpuMode ∧ fpuFrame s t

/-- An FPop fails (R432): it is queued with its word, ftt says why, an exception is pending, and no f register,
fcc or aexc changes. -/
def fpopFails (s : State) (word : Word) (ftt : BitVec 3) (cexc : BitVec 5) (t : State) : Prop :=
  t.fsr = { s.fsr with ftt := ftt, qne := true, cexc := cexc } ∧ t.fq = [⟨s.pc, word⟩] ∧
  t.fpuMode = .exceptionPending ∧ t.f = s.f ∧ fpuFrame s t

/-- cexc after a trapped IEEE exception (R435): the bit of the first enabled exception raised, in the order nv, of,
uf, dz, nx, and beside it only bits of disabled exceptions raised (U21). -/
def trapCexcIs (s : State) (texc cexc : BitVec 5) : Prop :=
  ∃ k, k < 5 ∧ (texc &&& s.fsr.tem).getLsbD k = true ∧ cexc.getLsbD k = true ∧
    (∀ j, k < j → (texc &&& s.fsr.tem).getLsbD j = false) ∧
    ∀ j, j ≠ k → cexc.getLsbD j = true → texc.getLsbD j = true ∧ s.fsr.tem.getLsbD j = false

/-- How an FPop ends once its operands are read (R432): left unfinished where the FPU declines it; completed with the
exceptions texc where none of them is enabled; failed with ftt = 1 where one is. -/
def fpopEnds (s : State) (i : Instr) (declined : Bool) (texc : BitVec 5) (fcc : BitVec 2) (written : State → Prop) : Prop :=
  (declined = true → completes (exec i s) (fpopFails s (encode i) 2 s.fsr.cexc)) ∧
  (declined = false → texc &&& s.fsr.tem = 0 → completes (exec i s) fun t => written t ∧ fpopDone s texc fcc t) ∧
  (declined = false → texc &&& s.fsr.tem ≠ 0 →
    ∃ cexc, trapCexcIs s texc cexc ∧ completes (exec i s) (fpopFails s (encode i) 1 cexc))

/-- The number that bits without a sign stand for (R431). The bits of infinity stand for the first power of two beyond
the largest number. -/
def Format.magnitude (fmt : Format) (m : Nat) : ℚ :=
  let frac := m % 2 ^ fmt.fracBits
  let e := m / 2 ^ fmt.fracBits
  if e = 0 then (frac : ℚ) * (2 : ℚ) ^ (fmt.minExp - (fmt.fracBits : Int))
  else ((2 ^ fmt.fracBits + frac : Nat) : ℚ) * (2 : ℚ) ^ ((e : Int) - (fmt.bias : Int) - (fmt.fracBits : Int))

/-- Rounding goes away from zero (R436): x > 0 lies between the magnitudes of the bits low and low + 1. -/
def Format.awayFromZero (fmt : Format) (rd : BitVec 2) (neg : Bool) (x : ℝ) (low : Nat) : Prop :=
  match rd.toNat with
  | 0 => (fmt.magnitude low : ℝ) + fmt.magnitude (low + 1) < 2 * x ∨
      (fmt.magnitude low : ℝ) + fmt.magnitude (low + 1) = 2 * x ∧ low % 2 = 1
  | 1 => False
  | 2 => neg = false ∧ (fmt.magnitude low : ℝ) ≠ x
  | _ => neg = true ∧ (fmt.magnitude low : ℝ) ≠ x

/-- r is the number of magnitude x > 0 and sign neg, rounded to the format in direction rd, with the exceptions raised
(R435, R436). Beyond the largest number the result is infinity or, in a direction toward zero, the largest number.
nx is raised exactly for an inexact result, of exactly where the rounded result is beyond the largest number; uf only
for a tiny one, and surely where tininess is detected before rounding or the result is subnormal (U19, log 24). -/
def Format.rounds (fmt : Format) (rd : BitVec 2) (ufm neg : Bool) (x : ℝ) (r : Rounded) : Prop :=
  let tiny : Prop := x < (2 : ℝ) ^ fmt.minExp
  (r.exotic = true ↔ tiny) ∧
  ((2 : ℝ) ^ (fmt.bias + 1) ≤ x → r.flags = 0x09 ∧
    r.bits = fmt.signBit neg +
      (if rd = 1 ∨ rd = 2 ∧ neg = true ∨ rd = 3 ∧ neg = false then fmt.infinityBits - 1 else fmt.infinityBits)) ∧
  (x < (2 : ℝ) ^ (fmt.bias + 1) → ∃ low m, low < fmt.infinityBits ∧ (fmt.magnitude low : ℝ) ≤ x ∧
    x < fmt.magnitude (low + 1) ∧ r.bits = fmt.signBit neg + m ∧
    (fmt.awayFromZero rd neg x low → m = low + 1) ∧ (¬ fmt.awayFromZero rd neg x low → m = low) ∧
    (r.flags.getLsbD 0 = true ↔ (fmt.magnitude low : ℝ) ≠ x) ∧ r.flags.getLsbD 1 = false ∧
    (r.flags.getLsbD 2 = true → tiny ∧ (ufm = true ∨ (fmt.magnitude low : ℝ) ≠ x)) ∧
    (tiny → ufm = true ∨ (fmt.magnitude low : ℝ) ≠ x → Config.tininessBefore = true ∨ m < 2 ^ fmt.fracBits →
      r.flags.getLsbD 2 = true) ∧
    (r.flags.getLsbD 3 = true ↔ m = fmt.infinityBits) ∧ r.flags.getLsbD 4 = false)

/-- r is the real number v rounded to the format; a zero has the sign negZero and raises nothing. -/
def Format.gives (fmt : Format) (rd : BitVec 2) (ufm negZero : Bool) (v : ℝ) (r : Rounded) : Prop :=
  (v = 0 → r = ⟨fmt.signBit negZero, 0, false⟩) ∧ (0 < v → fmt.rounds rd ufm false v r) ∧
  (v < 0 → fmt.rounds rd ufm true (-v) r)

/-- The value of a finite number. -/
def Number.value : Number → Option ℚ
  | .finite neg mant exp => some ((if neg then -1 else 1) * ((mant : ℚ) * (2 : ℚ) ^ exp))
  | _ => none

/-- The order of numbers, infinities at its ends; a NaN is below nothing and above nothing (R470). -/
def Number.below : Number → Number → Prop
  | .infinity true, .infinity false => True
  | .infinity true, .finite _ _ _ => True
  | .finite _ _ _, .infinity false => True
  | .finite n1 m1 e1, .finite n2 m2 e2 => ∃ x y, (Number.finite n1 m1 e1).value = some x ∧ (Number.finite n2 m2 e2).value = some y ∧ x < y
  | _, _ => False

/-- Equal numbers: +0 and -0 are equal, a NaN equals nothing (R470). -/
def Number.equals : Number → Number → Prop
  | .infinity a, .infinity b => a = b
  | .finite n1 m1 e1, .finite n2 m2 e2 => (Number.finite n1 m1 e1).value = (Number.finite n2 m2 e2).value
  | _, _ => False

/-! ## Branches -/

/-- PC and nPC after a branch (`43_control_transfer.md` R362), row by row of its table. -/
def branchesTo (s : State) (always taken a : Bool) (disp22 : BitVec 22) (t : State) : Prop :=
  let target := s.pc + BitVec.ofInt 32 (4 * disp22.toInt)
  match always, taken, a with
  | false, true, _ => t.pc = s.npc ∧ t.npc = target
  | false, false, false => t.pc = s.npc ∧ t.npc = s.npc + 4
  | false, false, true => t.pc = s.npc + 4 ∧ t.npc = s.npc + 8
  | true, _, false => t.pc = s.npc ∧ t.npc = target
  | true, _, true => t.pc = target ∧ t.npc = target + 4

/-- A branch changes PC and nPC only. -/
def branchEffect (s : State) (always taken a : Bool) (disp22 : BitVec 22) (t : State) : Prop :=
  branchesTo s always taken a disp22 t ∧ keepsRegs s t ∧ t.psr = s.psr ∧ keepsRest s t

/-! ## Classes of instructions -/

/-- A floating-point instruction (`45_fpop_cpop.md` R433). -/
def isFloatingPoint : Instr → Bool
  | .fbn _ _ => true
  | .fbne _ _ => true
  | .fblg _ _ => true
  | .fbul _ _ => true
  | .fbl _ _ => true
  | .fbug _ _ => true
  | .fbg _ _ => true
  | .fbu _ _ => true
  | .fba _ _ => true
  | .fbe _ _ => true
  | .fbue _ _ => true
  | .fbge _ _ => true
  | .fbuge _ _ => true
  | .fble _ _ => true
  | .fbule _ _ => true
  | .fbo _ _ => true
  | .fmovs _ _ _ => true
  | .fnegs _ _ _ => true
  | .fabss _ _ _ => true
  | .fsqrts _ _ _ => true
  | .fsqrtd _ _ _ => true
  | .fsqrtx _ _ _ => true
  | .fadds _ _ _ => true
  | .faddd _ _ _ => true
  | .faddx _ _ _ => true
  | .fsubs _ _ _ => true
  | .fsubd _ _ _ => true
  | .fsubx _ _ _ => true
  | .fmuls _ _ _ => true
  | .fmuld _ _ _ => true
  | .fmulx _ _ _ => true
  | .fdivs _ _ _ => true
  | .fdivd _ _ _ => true
  | .fdivx _ _ _ => true
  | .fitos _ _ _ => true
  | .fitod _ _ _ => true
  | .fitox _ _ _ => true
  | .fstoi _ _ _ => true
  | .fdtoi _ _ _ => true
  | .fxtoi _ _ _ => true
  | .fstod _ _ _ => true
  | .fstox _ _ _ => true
  | .fdtos _ _ _ => true
  | .fdtox _ _ _ => true
  | .fxtos _ _ _ => true
  | .fxtod _ _ _ => true
  | .fcmps _ _ _ => true
  | .fcmpd _ _ _ => true
  | .fcmpx _ _ _ => true
  | .fcmpes _ _ _ => true
  | .fcmped _ _ _ => true
  | .fcmpex _ _ _ => true
  | .ldf _ _ _ => true
  | .ldfsr _ _ _ => true
  | .lddf _ _ _ => true
  | .stf _ _ _ => true
  | .stfsr _ _ _ => true
  | .stdfq _ _ _ => true
  | .stdf _ _ _ => true
  | _ => false

/-- An extended-precision FPop (`45_fpop_cpop.md` R437 d). -/
def isExtended : Instr → Bool
  | .fsqrtx _ _ _ => true
  | .faddx _ _ _ => true
  | .fsubx _ _ _ => true
  | .fmulx _ _ _ => true
  | .fdivx _ _ _ => true
  | .fitox _ _ _ => true
  | .fxtoi _ _ _ => true
  | .fstox _ _ _ => true
  | .fdtox _ _ _ => true
  | .fxtos _ _ _ => true
  | .fxtod _ _ _ => true
  | .fcmpx _ _ _ => true
  | .fcmpex _ _ _ => true
  | _ => false

/-- A coprocessor instruction (`41_load_store_fp_cp.md` R270, `43_control_transfer.md` R375). -/
def isCoprocessor : Instr → Bool
  | .cbn _ _ => true
  | .cb123 _ _ => true
  | .cb12 _ _ => true
  | .cb13 _ _ => true
  | .cb1 _ _ => true
  | .cb23 _ _ => true
  | .cb2 _ _ => true
  | .cb3 _ _ => true
  | .cba _ _ => true
  | .cb0 _ _ => true
  | .cb03 _ _ => true
  | .cb02 _ _ => true
  | .cb023 _ _ => true
  | .cb01 _ _ => true
  | .cb013 _ _ => true
  | .cb012 _ _ => true
  | .cpop1 _ _ _ _ => true
  | .cpop2 _ _ _ _ => true
  | .ldc _ _ _ => true
  | .ldcsr _ _ _ => true
  | .lddc _ _ _ => true
  | .stc _ _ _ => true
  | .stcsr _ _ _ => true
  | .stdcq _ _ _ => true
  | .stdc _ _ _ => true
  | _ => false

/-- A delayed control transfer (`43_control_transfer.md` R363). -/
def isDelayedTransfer : Instr → Bool
  | .bn _ _ => true
  | .be _ _ => true
  | .ble _ _ => true
  | .bl _ _ => true
  | .bleu _ _ => true
  | .bcs _ _ => true
  | .bneg _ _ => true
  | .bvs _ _ => true
  | .ba _ _ => true
  | .bne _ _ => true
  | .bg _ _ => true
  | .bge _ _ => true
  | .bgu _ _ => true
  | .bcc _ _ => true
  | .bpos _ _ => true
  | .bvc _ _ => true
  | .fbn _ _ => true
  | .fbne _ _ => true
  | .fblg _ _ => true
  | .fbul _ _ => true
  | .fbl _ _ => true
  | .fbug _ _ => true
  | .fbg _ _ => true
  | .fbu _ _ => true
  | .fba _ _ => true
  | .fbe _ _ => true
  | .fbue _ _ => true
  | .fbge _ _ => true
  | .fbuge _ _ => true
  | .fble _ _ => true
  | .fbule _ _ => true
  | .fbo _ _ => true
  | .cbn _ _ => true
  | .cb123 _ _ => true
  | .cb12 _ _ => true
  | .cb13 _ _ => true
  | .cb1 _ _ => true
  | .cb23 _ _ => true
  | .cb2 _ _ => true
  | .cb3 _ _ => true
  | .cba _ _ => true
  | .cb0 _ _ => true
  | .cb03 _ _ => true
  | .cb02 _ _ => true
  | .cb023 _ _ => true
  | .cb01 _ _ => true
  | .cb013 _ _ => true
  | .cb012 _ _ => true
  | .call _ => true
  | .jmpl _ _ _ => true
  | .rett _ _ _ => true
  | _ => false

/-- A conditional branch: a Bicc, FBfcc or CBccc other than always and never (`43_control_transfer.md` R363, U1). -/
def isConditionalBranch : Instr → Bool
  | .be _ _ => true
  | .ble _ _ => true
  | .bl _ _ => true
  | .bleu _ _ => true
  | .bcs _ _ => true
  | .bneg _ _ => true
  | .bvs _ _ => true
  | .bne _ _ => true
  | .bg _ _ => true
  | .bge _ _ => true
  | .bgu _ _ => true
  | .bcc _ _ => true
  | .bpos _ _ => true
  | .bvc _ _ => true
  | .fbne _ _ => true
  | .fblg _ _ => true
  | .fbul _ _ => true
  | .fbl _ _ => true
  | .fbug _ _ => true
  | .fbg _ _ => true
  | .fbu _ _ => true
  | .fbe _ _ => true
  | .fbue _ _ => true
  | .fbge _ _ => true
  | .fbuge _ _ => true
  | .fble _ _ => true
  | .fbule _ _ => true
  | .fbo _ _ => true
  | .cb123 _ _ => true
  | .cb12 _ _ => true
  | .cb13 _ _ => true
  | .cb1 _ _ => true
  | .cb23 _ _ => true
  | .cb2 _ _ => true
  | .cb3 _ _ => true
  | .cb0 _ _ => true
  | .cb03 _ _ => true
  | .cb02 _ _ => true
  | .cb023 _ _ => true
  | .cb01 _ _ => true
  | .cb013 _ _ => true
  | .cb012 _ _ => true
  | _ => false

/-- An instruction that writes memory (`40_load_store_integer.md`, `41_load_store_fp_cp.md`). -/
def isStore : Instr → Bool
  | .st _ _ _ => true
  | .stb _ _ _ => true
  | .sth _ _ _ => true
  | .std _ _ _ => true
  | .ldstub _ _ _ => true
  | .swap _ _ _ => true
  | .sta _ _ _ => true
  | .stba _ _ _ => true
  | .stha _ _ _ => true
  | .stda _ _ _ => true
  | .ldstuba _ _ _ => true
  | .swapa _ _ _ => true
  | .stf _ _ _ => true
  | .stfsr _ _ _ => true
  | .stdfq _ _ _ => true
  | .stdf _ _ _ => true
  | .stc _ _ _ => true
  | .stcsr _ _ _ => true
  | .stdcq _ _ _ => true
  | .stdc _ _ _ => true
  | _ => false

/-- An instruction that writes the integer condition codes (`10_state.md` R46). -/
def writesIcc : Instr → Bool
  | .addcc _ _ _ => true
  | .andcc _ _ _ => true
  | .orcc _ _ _ => true
  | .xorcc _ _ _ => true
  | .subcc _ _ _ => true
  | .andncc _ _ _ => true
  | .orncc _ _ _ => true
  | .xnorcc _ _ _ => true
  | .addxcc _ _ _ => true
  | .subxcc _ _ _ => true
  | .taddcc _ _ _ => true
  | .tsubcc _ _ _ => true
  | .mulscc _ _ _ => true
  | .taddcctv _ _ _ => true
  | .tsubcctv _ _ _ => true
  | .wrpsr _ _ _ => true
  | _ => false

/-- A privileged instruction other than RETT (`60_exceptions.md` R550). -/
def isPrivileged : Instr → Bool
  | .rdpsr _ _ _ => true
  | .rdwim _ _ _ => true
  | .rdtbr _ _ _ => true
  | .wrpsr _ _ _ => true
  | .wrwim _ _ _ => true
  | .wrtbr _ _ _ => true
  | .stdfq _ _ _ => true
  | .stdcq _ _ _ => true
  | .lda _ _ _ => true
  | .lduba _ _ _ => true
  | .lduha _ _ _ => true
  | .ldda _ _ _ => true
  | .sta _ _ _ => true
  | .stba _ _ _ => true
  | .stha _ _ _ => true
  | .stda _ _ _ => true
  | .ldsba _ _ _ => true
  | .ldsha _ _ _ => true
  | .ldstuba _ _ _ => true
  | .swapa _ _ _ => true
  | _ => false

/-- One of the four delayed writes (`44_control_registers_misc.md` R402). -/
def isStateWrite : Instr → Bool
  | .wry _ _ _ => true
  | .wrpsr _ _ _ => true
  | .wrwim _ _ _ => true
  | .wrtbr _ _ _ => true
  | _ => false

end Sys2Proof.Machine
end

