-- ==== Sys2Proof/Certificates/Slice0/Obligations.lean ====
section
/-! DEFINITION. The statements about this machine, in the words of `Safety.lean`. Each says which rules of
`spec/` it rests on; where a clause is the model's choice it names the log entry. -/

open Sys2Proof Sys2Proof.Machine

/-- A step runs the decoded instruction (R30, R97; derived). The form of the inputs and of the words fetched ahead
is the model's (log 7, 19). -/
def Obligations.StepRunsDecodedInstruction : Prop :=
  ∀ (s : State) (w : Word) (i : Instr),
    s.input.reset = false → s.errorMode = false → s.sampled.interruptAccepted s.input.irl = false →
    s.fetch = some w → decode w = .ok i → step s = exec i s.sampled.aged

/-- The fetch reads the word at PC in the instruction space of the mode, most significant byte first (R96, R97, R93;
derived). The storage an asi reaches is the platform's, in the model's form (log 4). -/
def Obligations.FetchReadsMemoryAtPc : Prop :=
  ∀ s : State, s.psrWrite.left = 0 → s.stale = [] →
    s.fetch =
      if s.platform.memFault (if s.psr.s then 0x09#8 else 0x08#8) s.pc 4 .fetch then none
      else some (BitVec.ofNat 32 (bytesAt s.mem (if s.psr.s then s.platform.superInstr else s.platform.userInstr) s.pc 4))

/-- Decoding the word of any instruction gives the instruction back (R131, R132, R133, R150, R151, R152, R153, R154,
R155; derived). -/
def Obligations.DecodeEncode : Prop :=
  ∀ i : Instr, decode (encode i) = .ok i

/-- A word that decodes is the word of the instruction it decodes to (R131, R132, R133, R170, R172; derived). -/
def Obligations.EncodeDecode : Prop :=
  ∀ (w : Word) (i : Instr), decode w = .ok i → encode i = w

/-- Words the spec writes out decode to the instructions it gives them (R131, R132, R133, R181; derived). -/
def Obligations.SpecWordsDecode : Prop :=
  decode 0x40000040#32 = .ok (.call 0x40#30) ∧ decode 0x03048D15#32 = .ok (.sethi 1#5 0x048D15#22) ∧
  decode 0x32BFFFFE#32 = .ok (.bne true (-2)) ∧ decode 0x94020009#32 = .ok (.add 10#5 8#5 (.reg 0 9#5)) ∧
  decode 0x9DE3BFA0#32 = .ok (.save 14#5 14#5 (.imm (-96))) ∧ decode 0xD2820160#32 = .ok (.lda 9#5 8#5 (.reg 0x0B#8 0#5)) ∧
  decode 0x91D02003#32 = .ok (.ta false 0#5 (.imm 3)) ∧ decode 0x87A04822#32 = .ok (.fadds 3#5 1#5 2#5) ∧
  decode 0xC1320000#32 = .ok (.stdfq 0#5 8#5 (.reg 0 0#5)) ∧ decode 0x0000000C#32 = .ok (.unimp 0#5 12#22)

/-- Unassigned op2, op3: illegal_instruction; unassigned opf: unimplemented FPop; a refused fetch:
instruction_access_exception (R170, R172, R97; derived). The form of the inputs is the model's (log 7). -/
def Obligations.UnassignedWordsTrap : Prop :=
  (∀ (s : State) (w : Word), s.input.reset = false → s.errorMode = false →
    s.sampled.interruptAccepted s.input.irl = false → s.fetch = some w →
    (opOf w = 0#2 → op2Of w ∈ [1#3, 3#3, 5#3] → completes (step s) (trapsTo s.sampled 0x02)) ∧
    (opOf w = 2#2 → op3Of w ∈ [0x09#6, 0x0A#6, 0x0B#6, 0x0D#6, 0x0E#6, 0x0F#6, 0x19#6, 0x1A#6, 0x1B#6, 0x1D#6, 0x1E#6,
        0x1F#6, 0x2C#6, 0x2D#6, 0x2E#6, 0x2F#6, 0x3E#6, 0x3F#6] → completes (step s) (trapsTo s.sampled 0x02)) ∧
    (opOf w = 3#2 → op3Of w ∈ [0x08#6, 0x0B#6, 0x0C#6, 0x0E#6, 0x18#6, 0x1B#6, 0x1C#6, 0x1E#6, 0x22#6, 0x28#6, 0x29#6, 0x2A#6,
        0x2B#6, 0x2C#6, 0x2D#6, 0x2E#6, 0x2F#6, 0x32#6, 0x38#6, 0x39#6, 0x3A#6, 0x3B#6, 0x3C#6, 0x3D#6,
        0x3E#6, 0x3F#6] → completes (step s) (trapsTo s.sampled 0x02)) ∧
    (opOf w = 2#2 →
      op3Of w = 0x34#6 ∧ opfOf w ∉ [0x001#9, 0x005#9, 0x009#9, 0x029#9, 0x02A#9, 0x02B#9, 0x041#9, 0x042#9, 0x043#9, 0x045#9, 0x046#9,
        0x047#9, 0x049#9, 0x04A#9, 0x04B#9, 0x04D#9, 0x04E#9, 0x04F#9, 0x0C4#9, 0x0C6#9, 0x0C7#9, 0x0C8#9,
        0x0C9#9, 0x0CB#9, 0x0CC#9, 0x0CD#9, 0x0CE#9, 0x0D1#9, 0x0D2#9, 0x0D3#9] ∨
      op3Of w = 0x35#6 ∧ opfOf w ∉ [0x051#9, 0x052#9, 0x053#9, 0x055#9, 0x056#9, 0x057#9] →
      (fpuReady s → completes (step s) (fpopFails s.sampled w 3 s.fsr.cexc)) ∧
      (s.efView = false ∨ s.platform.fpuPresent = false → completes (step s) (trapsTo s.sampled 0x04)))) ∧
  (∀ s : State, s.input.reset = false → s.errorMode = false → s.sampled.interruptAccepted s.input.irl = false →
    s.fetch = none → completes (step s) (trapsTo s.sampled 0x01))

/-- Every step keeps the invariant of the state (R41, R33, R45, R48, R49, R56, R58, R59, R579, R90; derived). The
canonical form of memory is the model's (log 3). -/
def Obligations.StepKeepsInvariant : Prop :=
  ∀ s t : State, s.Inv → step s = .next t → t.Inv

/-- The state after reset has the invariant, with PC = 0, nPC = 4, S = 1, ET = 0 (R70, R570; derived). That CWP is
below 8 at reset rests on the model's value (log 2), the form of memory is the model's (log 3). -/
def Obligations.ResetHasInvariant : Prop :=
  State.reset.Inv ∧ State.reset.pc = 0#32 ∧ State.reset.npc = 4#32 ∧ State.reset.psr.s = true ∧ State.reset.psr.et = false ∧
  State.reset.errorMode = false ∧ State.reset.fsr.ftt = 0#3 ∧ State.reset.fsr.qne = false ∧ State.reset.fpuMode = .execute ∧
  State.reset.fq = [] ∧ State.reset.psrWrite.left = 0 ∧ State.reset.wimWrite.left = 0 ∧ State.reset.tbrWrite.left = 0 ∧
  State.reset.yWrite.left = 0

/-- operand2 is r[rs2], or the 13-bit constant sign-extended; r[0] reads as 0 (R141, R200, R33; derived). -/
def Obligations.SecondOperand : Prop :=
  ∀ s : State, (∀ asi rs2, s.operand2 (.reg asi rs2) = s.reg rs2) ∧
    (∀ simm13 : BitVec 13, (s.operand2 (.imm simm13)).toInt = simm13.toInt) ∧ (∀ w, s.regIn w 0 = 0#32) ∧
    (s.psrWrite.left = 0 → s.cwpView = s.psr.cwp ∧ s.iccView = s.psr.icc ∧ s.supervisor = s.psr.s ∧
      s.trapsEnabled = s.psr.et ∧ s.efView = s.psr.ef ∧ s.ecView = s.psr.ec) ∧ (∀ r, s.reg r = s.regIn s.cwpView r)

/-- The ins of a window are the outs of the next window; locals are private; globals are shared (R32, R33; derived). -/
def Obligations.WindowOverlap : Prop :=
  (∀ (s : State) (w : BitVec 5) (n : RegNum), w.toNat < 8 → 8 ≤ n.toNat → n.toNat < 16 →
    s.regIn w (n + 16) = s.regIn (BitVec.ofNat 5 ((w.toNat + 1) % 8)) n) ∧
  (∀ (w v : BitVec 5) (n m : RegNum), w.toNat < 8 → v.toNat < 8 → physical w n = physical v m →
    n = m ∧ (n.toNat < 8 ∨ w = v) ∨ v.toNat = (w.toNat + 1) % 8 ∧ n = m + 16 ∧ 8 ≤ m.toNat ∧ m.toNat < 16 ∨
      w.toNat = (v.toNat + 1) % 8 ∧ m = n + 16 ∧ 8 ≤ n.toNat ∧ n.toNat < 16) ∧
  (∀ (s : State) (w v : BitVec 5) (n : RegNum), n.toNat < 8 → s.regIn w n = s.regIn v n) ∧
  (∀ (s : State) (w v : BitVec 5) (n m : RegNum) (x : Word),
    (s.setRegIn w n x).regIn v m = if n ≠ 0 ∧ physical v m = physical w n then x else s.regIn v m) ∧
  (∀ (s : State) (w v : BitVec 5) (n m : RegNum) (x : Word), w.toNat < 8 → v.toNat < 8 → 16 ≤ n.toNat → n.toNat < 24 →
    w ≠ v ∨ n ≠ m → (s.setRegIn w n x).regIn v m = s.regIn v m)

/-- ADD, ADDX, SUB and SUBX write the sum or difference modulo 2^32, with the carry, and no flag (R303, R305, R308,
R310, R300; derived). Inside the window of a WRPSR the registers and flags read are open values, the model's
choice (log 9). -/
def Obligations.AddSubResults : Prop :=
  ∀ (s : State) (rd rs1 : RegNum) (src2 : Operand2),
    let a := s.reg rs1
    let b := s.operand2 src2
    let c : Nat := if s.iccView.c then 1 else 0
    completes (exec (.add rd rs1 src2) s) (aluEffect s rd (BitVec.ofNat 32 (a.toNat + b.toNat)) s.psr.icc) ∧
    completes (exec (.addx rd rs1 src2) s) (aluEffect s rd (BitVec.ofNat 32 (a.toNat + b.toNat + c)) s.psr.icc) ∧
    completes (exec (.sub rd rs1 src2) s) (aluEffect s rd (BitVec.ofInt 32 ((a.toNat : Int) - b.toNat)) s.psr.icc) ∧
    completes (exec (.subx rd rs1 src2) s) (aluEffect s rd (BitVec.ofInt 32 ((a.toNat : Int) - b.toNat - c)) s.psr.icc)

/-- ADDcc, ADDXcc, SUBcc and SUBXcc write the sum or difference and all four flags (R301, R304, R306, R307, R309,
R311; derived). Inside the window of a WRPSR the registers and flags read are open values, the model's choice
(log 9). -/
def Obligations.AddSubFlags : Prop :=
  ∀ (s : State) (rd rs1 : RegNum) (src2 : Operand2),
    let a := s.reg rs1
    let b := s.operand2 src2
    let c : Bool := s.iccView.c
    let outside (x : Int) : Bool := decide (x < -2 ^ 31 ∨ 2 ^ 31 ≤ x)
    let flags (r : Word) (v c : Bool) : Icc := { n := decide (r.toInt < 0), z := decide (r.toNat = 0), v := v, c := c }
    let sum := BitVec.ofNat 32 (a.toNat + b.toNat)
    let sumX := BitVec.ofNat 32 (a.toNat + b.toNat + c.toNat)
    let diff := BitVec.ofInt 32 ((a.toNat : Int) - b.toNat)
    let diffX := BitVec.ofInt 32 ((a.toNat : Int) - b.toNat - c.toNat)
    completes (exec (.addcc rd rs1 src2) s)
      (aluEffect s rd sum (flags sum (outside (a.toInt + b.toInt)) (decide (2 ^ 32 ≤ a.toNat + b.toNat)))) ∧
    completes (exec (.addxcc rd rs1 src2) s)
      (aluEffect s rd sumX (flags sumX (outside (a.toInt + b.toInt + c.toNat)) (decide (2 ^ 32 ≤ a.toNat + b.toNat + c.toNat)))) ∧
    completes (exec (.subcc rd rs1 src2) s)
      (aluEffect s rd diff (flags diff (outside (a.toInt - b.toInt)) (decide (a.toNat < b.toNat)))) ∧
    completes (exec (.subxcc rd rs1 src2) s)
      (aluEffect s rd diffX (flags diffX (outside (a.toInt - b.toInt - c.toNat)) (decide (a.toNat < b.toNat + c.toNat))))

/-- AND, ANDN, OR, ORN, XOR and XNOR write the bitwise result and no flag (R312, R314, R316, R318, R320, R322;
derived). Inside the window of a WRPSR the registers and flags read are open values, the model's choice (log 9). -/
def Obligations.LogicalResults : Prop :=
  ∀ (s : State) (rd rs1 : RegNum) (src2 : Operand2),
    let a := s.reg rs1
    let b := s.operand2 src2
    let bits (f : Nat → Bool) (r : Word) : Prop := ∀ k, k < 32 → r.getLsbD k = f k
    (∃ r, bits (fun k => a.getLsbD k && b.getLsbD k) r ∧ completes (exec (.and rd rs1 src2) s) (aluEffect s rd r s.psr.icc)) ∧
    (∃ r, bits (fun k => a.getLsbD k || b.getLsbD k) r ∧ completes (exec (.or rd rs1 src2) s) (aluEffect s rd r s.psr.icc)) ∧
    (∃ r, bits (fun k => a.getLsbD k ^^ b.getLsbD k) r ∧ completes (exec (.xor rd rs1 src2) s) (aluEffect s rd r s.psr.icc)) ∧
    (∃ r, bits (fun k => a.getLsbD k && !b.getLsbD k) r ∧ completes (exec (.andn rd rs1 src2) s) (aluEffect s rd r s.psr.icc)) ∧
    (∃ r, bits (fun k => a.getLsbD k || !b.getLsbD k) r ∧ completes (exec (.orn rd rs1 src2) s) (aluEffect s rd r s.psr.icc)) ∧
    (∃ r, bits (fun k => !(a.getLsbD k ^^ b.getLsbD k)) r ∧ completes (exec (.xnor rd rs1 src2) s) (aluEffect s rd r s.psr.icc))

/-- The six logical cc instructions set n and z from the result and clear v and c (R302; stated). -/
def Obligations.LogicalFlags : Prop :=
  ∀ (s : State) (rd rs1 : RegNum) (src2 : Operand2), s.psrWrite.left = 0 →
    let a := s.reg rs1
    let b := s.operand2 src2
    let bits (f : Nat → Bool) (r : Word) : Prop := ∀ k, k < 32 → r.getLsbD k = f k
    let flags (r : Word) : Icc := { n := r.getLsbD 31, z := decide (r = 0), v := false, c := false }
    (∃ r, bits (fun k => a.getLsbD k && b.getLsbD k) r ∧ completes (exec (.andcc rd rs1 src2) s) (aluEffect s rd r (flags r))) ∧
    (∃ r, bits (fun k => a.getLsbD k || b.getLsbD k) r ∧ completes (exec (.orcc rd rs1 src2) s) (aluEffect s rd r (flags r))) ∧
    (∃ r, bits (fun k => a.getLsbD k ^^ b.getLsbD k) r ∧ completes (exec (.xorcc rd rs1 src2) s) (aluEffect s rd r (flags r))) ∧
    (∃ r, bits (fun k => a.getLsbD k && !b.getLsbD k) r ∧ completes (exec (.andncc rd rs1 src2) s) (aluEffect s rd r (flags r))) ∧
    (∃ r, bits (fun k => a.getLsbD k || !b.getLsbD k) r ∧ completes (exec (.orncc rd rs1 src2) s) (aluEffect s rd r (flags r))) ∧
    (∃ r, bits (fun k => !(a.getLsbD k ^^ b.getLsbD k)) r ∧ completes (exec (.xnorcc rd rs1 src2) s) (aluEffect s rd r (flags r)))

/-- Tagged overflow: arithmetic overflow or a non-zero tag bit; the TV forms trap tag_overflow on it (R324, R325,
R326, R327, R328; stated). -/
def Obligations.TaggedOverflow : Prop :=
  ∀ (s : State) (rd rs1 : RegNum) (src2 : Operand2), s.psrWrite.left = 0 →
    let a := s.reg rs1
    let b := s.operand2 src2
    let tagbad : Bool := decide (a.toNat % 4 ≠ 0 ∨ b.toNat % 4 ≠ 0)
    let outside (x : Int) : Bool := decide (x < -2 ^ 31 ∨ 2 ^ 31 ≤ x)
    let flags (r : Word) (v c : Bool) : Icc := { n := decide (r.toInt < 0), z := decide (r.toNat = 0), v := v, c := c }
    let sum := BitVec.ofNat 32 (a.toNat + b.toNat)
    let diff := BitVec.ofInt 32 ((a.toNat : Int) - b.toNat)
    let carry : Bool := decide (2 ^ 32 ≤ a.toNat + b.toNat)
    let borrow : Bool := decide (a.toNat < b.toNat)
    let overflowAdd := outside (a.toInt + b.toInt) || tagbad
    let overflowSub := outside (a.toInt - b.toInt) || tagbad
    completes (exec (.taddcc rd rs1 src2) s) (aluEffect s rd sum (flags sum overflowAdd carry)) ∧
    completes (exec (.tsubcc rd rs1 src2) s) (aluEffect s rd diff (flags diff overflowSub borrow)) ∧
    completes (exec (.taddcctv rd rs1 src2) s)
      (if overflowAdd then trapsTo s 0x0A else aluEffect s rd sum (flags sum false carry)) ∧
    completes (exec (.tsubcctv rd rs1 src2) s)
      (if overflowSub then trapsTo s 0x0A else aluEffect s rd diff (flags diff false borrow))

/-- MULScc does one multiply step on r[rs1], operand2 and Y (R330, R301, R50; derived). Inside the window of a WRPSR
the registers and flags read are open values, the model's choice (log 9), and so is Y inside the window of a
WRY. -/
def Obligations.MultiplyStep : Prop :=
  ∀ (s : State) (rd rs1 : RegNum) (src2 : Operand2),
    let a := s.reg rs1
    let b := s.operand2 src2
    let y := s.yView
    let op1 : Nat := (if s.iccView.n ^^ s.iccView.v then 2 ^ 31 else 0) + a.toNat / 2
    let op2 : Nat := if y.toNat % 2 = 1 then b.toNat else 0
    let r := BitVec.ofNat 32 (op1 + op2)
    let signedSum : Int := (BitVec.ofNat 32 op1).toInt + (BitVec.ofNat 32 op2).toInt
    let icc : Icc := { n := decide (r.toInt < 0), z := decide (r.toNat = 0),
                       v := decide (signedSum < -2 ^ 31 ∨ 2 ^ 31 ≤ signedSum), c := decide (2 ^ 32 ≤ op1 + op2) }
    completes (exec (.mulscc rd rs1 src2) s) fun t =>
      writesReg s t s.cwpView rd r ∧ t.psr = { s.psr with icc := icc } ∧
      t.y = BitVec.ofNat 32 ((if a.toNat % 2 = 1 then 2 ^ 31 else 0) + y.toNat / 2) ∧ t.wim = s.wim ∧ t.tbr = s.tbr ∧
      keepsFpu s t ∧ t.cp = s.cp ∧ keepsMemory s t ∧ keepsOutside s t ∧ advanced s t

/-- SLL, SRL and SRA shift by the low five bits of operand2 and change no flag (R335; stated). -/
def Obligations.ShiftResults : Prop :=
  ∀ (s : State) (rd rs1 : RegNum) (src2 : Operand2), s.psrWrite.left = 0 →
    let a := s.reg rs1
    let b := s.operand2 src2
    let cnt := b.toNat % 32
    completes (exec (.sll rd rs1 src2) s) (aluEffect s rd (BitVec.ofNat 32 (a.toNat * 2 ^ cnt)) s.psr.icc) ∧
    completes (exec (.srl rd rs1 src2) s) (aluEffect s rd (BitVec.ofNat 32 (a.toNat / 2 ^ cnt)) s.psr.icc) ∧
    completes (exec (.sra rd rs1 src2) s) (aluEffect s rd (BitVec.ofInt 32 (a.toInt / 2 ^ cnt)) s.psr.icc)

/-- SETHI writes imm22 * 1024; UNIMP traps illegal_instruction; IFLUSH does nothing or traps by the IFT input (R340,
R341, R411, R412; derived). Inside the window of a WRPSR the registers and flags read are open values, the
model's choice (log 9), and trap or error mode is a draw (log 12). -/
def Obligations.SethiUnimpIflush : Prop :=
  (∀ (s : State) (rd : RegNum) (imm22 : BitVec 22),
    completes (exec (.sethi rd imm22) s) (aluEffect s rd (BitVec.ofNat 32 (imm22.toNat * 1024)) s.psr.icc) ∧
    exec (.sethi 0 imm22) s = .next s.advance) ∧
  (∀ (s : State) (rd rs1 : RegNum) (const22 : BitVec 22) (src2 : Operand2),
    completes (exec (.unimp rd const22) s) (trapsTo s 0x02) ∧
    (s.platform.ift = true → completes (exec (.iflush rd rs1 src2) s) fun t =>
      keepsRegs s t ∧ t.psr = s.psr ∧ keepsRest s t ∧ advanced s t) ∧
    (s.platform.ift = false → completes (exec (.iflush rd rs1 src2) s) (trapsTo s 0x02)))

/-- SAVE and RESTORE move CWP by one modulo 8 and write the sum of the old window in the new one, or trap on an
invalid window (R344, R345, R346, R48; derived). -/
def Obligations.SaveAndRestore : Prop :=
  (∀ (s : State) (rd rs1 : RegNum) (src2 : Operand2) (cwp : BitVec 5), s.wimWrite.left = 0 → s.psrWrite.left = 0 →
    let r := BitVec.ofNat 32 ((s.regIn s.psr.cwp rs1).toNat + (s.operand2 src2).toNat)
    let effect (t : State) : Prop :=
      writesReg s t cwp rd r ∧ t.psr = { s.psr with cwp := cwp } ∧ keepsRest s t ∧ advanced s t
    s.wim.getLsbD cwp.toNat = false →
    (cwp.toNat = (s.psr.cwp.toNat + 7) % 8 → completes (exec (.save rd rs1 src2) s) effect) ∧
    (cwp.toNat = (s.psr.cwp.toNat + 1) % 8 → completes (exec (.restore rd rs1 src2) s) effect)) ∧
  (∀ (s : State) (rd rs1 : RegNum) (src2 : Operand2), s.wimWrite.left = 0 → s.psrWrite.left = 0 →
    (s.wim.getLsbD ((s.psr.cwp.toNat + 7) % 8) = true → completes (exec (.save rd rs1 src2) s) (trapsTo s 0x05)) ∧
    (s.wim.getLsbD ((s.psr.cwp.toNat + 1) % 8) = true → completes (exec (.restore rd rs1 src2) s) (trapsTo s 0x06)))

/-- The six integer loads write the bytes at the effective address, extended by sign or by zero (R200, R201, R210,
R211, R212, R213, R214, R215, R93, R101; derived). Inside the window of a WRPSR the registers and flags read are
open values, the model's choice (log 9). -/
def Obligations.IntegerLoads : Prop :=
  ∀ (s : State) (rd rs1 : RegNum) (src2 : Operand2),
    let ea := s.reg rs1 + s.operand2 src2
    let st := s.dataStorage
    (dataAllowed s ea 1 .read →
      completes (exec (.ldsb rd rs1 src2) s) (aluEffect s rd (BitVec.ofInt 32 (signedBytes 1 (bytesAt s.mem st ea 1))) s.psr.icc)) ∧
    (dataAllowed s ea 2 .read →
      completes (exec (.ldsh rd rs1 src2) s) (aluEffect s rd (BitVec.ofInt 32 (signedBytes 2 (bytesAt s.mem st ea 2))) s.psr.icc)) ∧
    (dataAllowed s ea 1 .read →
      completes (exec (.ldub rd rs1 src2) s) (aluEffect s rd (BitVec.ofNat 32 (bytesAt s.mem st ea 1)) s.psr.icc)) ∧
    (dataAllowed s ea 2 .read →
      completes (exec (.lduh rd rs1 src2) s) (aluEffect s rd (BitVec.ofNat 32 (bytesAt s.mem st ea 2)) s.psr.icc)) ∧
    (dataAllowed s ea 4 .read →
      completes (exec (.ld rd rs1 src2) s) (aluEffect s rd (BitVec.ofNat 32 (bytesAt s.mem st ea 4)) s.psr.icc)) ∧
    (rd.toNat % 2 = 0 → dataAllowed s ea 8 .read → completes (exec (.ldd rd rs1 src2) s) fun t =>
        writesPair s t s.cwpView rd (BitVec.ofNat 32 (bytesAt s.mem st ea 4)) (BitVec.ofNat 32 (bytesAt s.mem st (ea + 4) 4)) ∧
        t.psr = s.psr ∧ keepsRest s t ∧ advanced s t)

/-- Integer stores write the low bytes of r[rd]; LDSTUB and SWAP exchange memory and r[rd]; no other byte changes
(R200, R201, R225, R226, R227, R228, R93, R101, R235, R237, R110; derived). Inside the window of a WRPSR the
registers and flags read are open values, the model's choice (log 9); the canonical form of memory is the
model's (log 3). -/
def Obligations.IntegerStoresAndAtomics : Prop :=
  (∀ (s : State) (rd rs1 : RegNum) (src2 : Operand2),
    let ea := s.reg rs1 + s.operand2 src2
    let st := s.dataStorage
    Memory.wf s.mem = true →
    (dataAllowed s ea 1 .write → completes (exec (.stb rd rs1 src2) s) fun t =>
      storesBytes s t st ea 1 (s.reg rd).toNat ∧ storeFrame s t) ∧
    (dataAllowed s ea 2 .write → completes (exec (.sth rd rs1 src2) s) fun t =>
      storesBytes s t st ea 2 (s.reg rd).toNat ∧ storeFrame s t) ∧
    (dataAllowed s ea 4 .write → completes (exec (.st rd rs1 src2) s) fun t =>
      storesBytes s t st ea 4 (s.reg rd).toNat ∧ storeFrame s t) ∧
    (rd.toNat % 2 = 0 → dataAllowed s ea 8 .write → completes (exec (.std rd rs1 src2) s) fun t =>
      storesBytes s t st ea 8 ((s.reg rd).toNat * 2 ^ 32 + (s.reg (rd + 1)).toNat) ∧ storeFrame s t)) ∧
  (∀ (s : State) (rd rs1 : RegNum) (src2 : Operand2),
    let ea := s.reg rs1 + s.operand2 src2
    let st := s.dataStorage
    Memory.wf s.mem = true →
    (dataAllowed s ea 1 .rmw → completes (exec (.ldstub rd rs1 src2) s) fun t =>
      storesBytes s t st ea 1 0xFF ∧ writesReg s t s.cwpView rd (BitVec.ofNat 32 (bytesAt s.mem st ea 1)) ∧ t.psr = s.psr ∧
      keepsControl s t ∧ keepsFpu s t ∧ t.cp = s.cp ∧ keepsOutside s t ∧ advanced s t) ∧
    (dataAllowed s ea 4 .rmw → completes (exec (.swap rd rs1 src2) s) fun t =>
      storesBytes s t st ea 4 (s.reg rd).toNat ∧ writesReg s t s.cwpView rd (BitVec.ofNat 32 (bytesAt s.mem st ea 4)) ∧
      t.psr = s.psr ∧ keepsControl s t ∧ keepsFpu s t ∧ t.cp = s.cp ∧ keepsOutside s t ∧ advanced s t))

/-- In supervisor mode the alternate-space instructions access the space the asi field names (R202, R216, R217,
R218, R219, R220, R221, R229, R230, R231, R232, R236, R238; derived). Inside the window of a WRPSR the registers
and flags read are open values, the model's choice (log 9); the map of the asis and the form of memory are the
model's (log 3, 4). -/
def Obligations.AlternateSpaceAccesses : Prop :=
  (∀ (s : State) (rd rs1 rs2 : RegNum) (asi : BitVec 8) (st : Nat), s.supervisor = true →
    let ea := s.reg rs1 + s.reg rs2
    let src2 : Operand2 := .reg asi rs2
    (alternateAllowed s asi ea 1 .read st →
      completes (exec (.ldsba rd rs1 src2) s) (aluEffect s rd (BitVec.ofInt 32 (signedBytes 1 (bytesAt s.mem st ea 1))) s.psr.icc)) ∧
    (alternateAllowed s asi ea 2 .read st →
      completes (exec (.ldsha rd rs1 src2) s) (aluEffect s rd (BitVec.ofInt 32 (signedBytes 2 (bytesAt s.mem st ea 2))) s.psr.icc)) ∧
    (alternateAllowed s asi ea 1 .read st →
      completes (exec (.lduba rd rs1 src2) s) (aluEffect s rd (BitVec.ofNat 32 (bytesAt s.mem st ea 1)) s.psr.icc)) ∧
    (alternateAllowed s asi ea 2 .read st →
      completes (exec (.lduha rd rs1 src2) s) (aluEffect s rd (BitVec.ofNat 32 (bytesAt s.mem st ea 2)) s.psr.icc)) ∧
    (alternateAllowed s asi ea 4 .read st →
      completes (exec (.lda rd rs1 src2) s) (aluEffect s rd (BitVec.ofNat 32 (bytesAt s.mem st ea 4)) s.psr.icc)) ∧
    (rd.toNat % 2 = 0 → alternateAllowed s asi ea 8 .read st → completes (exec (.ldda rd rs1 src2) s) fun t =>
        writesPair s t s.cwpView rd (BitVec.ofNat 32 (bytesAt s.mem st ea 4)) (BitVec.ofNat 32 (bytesAt s.mem st (ea + 4) 4)) ∧
        t.psr = s.psr ∧ keepsRest s t ∧ advanced s t)) ∧
  (∀ (s : State) (rd rs1 rs2 : RegNum) (asi : BitVec 8) (st : Nat), s.supervisor = true →
    let ea := s.reg rs1 + s.reg rs2
    let src2 : Operand2 := .reg asi rs2
    Memory.wf s.mem = true →
    (alternateAllowed s asi ea 1 .write st → completes (exec (.stba rd rs1 src2) s) fun t =>
      storesBytes s t st ea 1 (s.reg rd).toNat ∧ storeFrame s t) ∧
    (alternateAllowed s asi ea 2 .write st → completes (exec (.stha rd rs1 src2) s) fun t =>
      storesBytes s t st ea 2 (s.reg rd).toNat ∧ storeFrame s t) ∧
    (alternateAllowed s asi ea 4 .write st → completes (exec (.sta rd rs1 src2) s) fun t =>
      storesBytes s t st ea 4 (s.reg rd).toNat ∧ storeFrame s t) ∧
    (rd.toNat % 2 = 0 → alternateAllowed s asi ea 8 .write st → completes (exec (.stda rd rs1 src2) s) fun t =>
      storesBytes s t st ea 8 ((s.reg rd).toNat * 2 ^ 32 + (s.reg (rd + 1)).toNat) ∧ storeFrame s t) ∧
    (alternateAllowed s asi ea 1 .rmw st → completes (exec (.ldstuba rd rs1 src2) s) fun t =>
      storesBytes s t st ea 1 0xFF ∧ writesReg s t s.cwpView rd (BitVec.ofNat 32 (bytesAt s.mem st ea 1)) ∧ t.psr = s.psr ∧
      keepsControl s t ∧ keepsFpu s t ∧ t.cp = s.cp ∧ keepsOutside s t ∧ advanced s t) ∧
    (alternateAllowed s asi ea 4 .rmw st → completes (exec (.swapa rd rs1 src2) s) fun t =>
      storesBytes s t st ea 4 (s.reg rd).toNat ∧ writesReg s t s.cwpView rd (BitVec.ofNat 32 (bytesAt s.mem st ea 4)) ∧
      t.psr = s.psr ∧ keepsControl s t ∧ keepsFpu s t ∧ t.cp = s.cp ∧ keepsOutside s t ∧ advanced s t))

/-- A misaligned integer, floating-point or coprocessor access traps tt 0x07; an aligned one the platform refuses
traps tt 0x09 (R98, R99, R106, R201, R102, R111, R114, R260, R270; derived). Inside the window of a WRPSR the
registers and flags read are open values, the model's choice (log 9), and trap or error mode is a draw (log 12);
that a cp_exception comes between alignment and access is the model's choice (log 32). -/
def Obligations.DataAccessTraps : Prop :=
  ∀ (s : State) (rd rs1 : RegNum) (src2 : Operand2),
    let ea := s.reg rs1 + s.operand2 src2
    let misaligned (i : Instr) (size : Nat) : Prop := ea.toNat % size ≠ 0 → completes (exec i s) (trapsTo s 0x07)
    let refused (i : Instr) (size : Nat) (kind : AccessKind) : Prop :=
      ea.toNat % size = 0 → s.platform.memFault s.dataAsi ea size kind = true → completes (exec i s) (trapsTo s 0x09)
    misaligned (.ldsh rd rs1 src2) 2 ∧ misaligned (.lduh rd rs1 src2) 2 ∧ misaligned (.ld rd rs1 src2) 4 ∧ misaligned (.sth rd rs1 src2) 2 ∧
    misaligned (.st rd rs1 src2) 4 ∧ misaligned (.swap rd rs1 src2) 4 ∧
    refused (.ldsb rd rs1 src2) 1 .read ∧ refused (.ldsh rd rs1 src2) 2 .read ∧ refused (.ldub rd rs1 src2) 1 .read ∧
    refused (.lduh rd rs1 src2) 2 .read ∧ refused (.ld rd rs1 src2) 4 .read ∧
    refused (.stb rd rs1 src2) 1 .write ∧ refused (.sth rd rs1 src2) 2 .write ∧ refused (.st rd rs1 src2) 4 .write ∧
    refused (.ldstub rd rs1 src2) 1 .rmw ∧ refused (.swap rd rs1 src2) 4 .rmw ∧
    (rd.toNat % 2 = 0 → misaligned (.ldd rd rs1 src2) 8 ∧ misaligned (.std rd rs1 src2) 8 ∧
      refused (.ldd rd rs1 src2) 8 .read ∧ refused (.std rd rs1 src2) 8 .write) ∧
    (s.efView = true → s.platform.fpuPresent = true →
      misaligned (.ldf rd rs1 src2) 4 ∧ misaligned (.ldfsr rd rs1 src2) 4 ∧ misaligned (.stf rd rs1 src2) 4 ∧
      misaligned (.stfsr rd rs1 src2) 4 ∧ (s.supervisor = true → misaligned (.stdfq rd rs1 src2) 8) ∧
      (rd.toNat % 2 = 0 → misaligned (.lddf rd rs1 src2) 8 ∧ misaligned (.stdf rd rs1 src2) 8) ∧
      (s.fpuMode = .execute → refused (.ldf rd rs1 src2) 4 .read ∧ refused (.ldfsr rd rs1 src2) 4 .read ∧
        (rd.toNat % 2 = 0 → refused (.lddf rd rs1 src2) 8 .read)) ∧
      (s.fpuMode ≠ .exceptionPending → refused (.stf rd rs1 src2) 4 .write ∧ refused (.stfsr rd rs1 src2) 4 .write ∧
        (s.supervisor = true → refused (.stdfq rd rs1 src2) 8 .write) ∧
        (rd.toNat % 2 = 0 → refused (.stdf rd rs1 src2) 8 .write))) ∧
    (s.ecView = true → s.platform.cpPresent = true →
      let after : State := if s.trapsEnabled then { s with cp := Config.cpAfterLoadTrap s.draws s.cp } else s
      let loads (i : Instr) (size : Nat) : Prop :=
        (ea.toNat % size ≠ 0 → completes (exec i s) (trapsTo after 0x07)) ∧
        (ea.toNat % size = 0 → s.cp.exceptionPending = false → s.platform.memFault s.dataAsi ea size .read = true →
          completes (exec i s) (trapsTo after 0x09))
      let stores (i : Instr) (size : Nat) : Prop :=
        misaligned i size ∧ (s.cp.exceptionPending = false → refused i size .write)
      loads (.ldc rd rs1 src2) 4 ∧ loads (.ldcsr rd rs1 src2) 4 ∧ (rd.toNat % 2 = 0 → loads (.lddc rd rs1 src2) 8) ∧
      stores (.stc rd rs1 src2) 4 ∧ stores (.stcsr rd rs1 src2) 4 ∧ (rd.toNat % 2 = 0 → stores (.stdc rd rs1 src2) 8) ∧
      (s.supervisor = true → stores (.stdcq rd rs1 src2) 8))

/-- Alternate-space instructions: illegal_instruction for i = 1, privileged_instruction for S = 0, alignment,
MemFault, unmapped asi (the model's fault) (R202, R98, R106; derived). The fault unmappedSpace (U25), and that
MemFault is asked before the map, is the model's choice (log 4); inside the window of a WRPSR the registers and
flags read are open values, the model's choice (log 9), and trap or error mode is a draw (log 12). -/
def Obligations.AlternateChecks : Prop :=
  ∀ (s : State) (rd rs1 rs2 : RegNum) (asi : BitVec 8) (simm13 : BitVec 13),
    let ea := s.reg rs1 + s.reg rs2
    let checks (i : Operand2 → Instr) (size : Nat) (kind : AccessKind) : Prop :=
      completes (exec (i (.imm simm13)) s) (trapsTo s 0x02) ∧
      (s.supervisor = false → completes (exec (i (.reg asi rs2)) s) (trapsTo s 0x03)) ∧
      (s.supervisor = true → (size = 8 → rd.toNat % 2 = 0) → ea.toNat % size = 0 →
        (s.platform.memFault asi ea size kind = true → completes (exec (i (.reg asi rs2)) s) (trapsTo s 0x09)) ∧
        (s.platform.memFault asi ea size kind = false → s.platform.storageOf asi = none →
          exec (i (.reg asi rs2)) s = .fault (.unmappedSpace asi)))
    let misaligned (i : Operand2 → Instr) (size : Nat) : Prop :=
      s.supervisor = true → (size = 8 → rd.toNat % 2 = 0) → ea.toNat % size ≠ 0 →
        completes (exec (i (.reg asi rs2)) s) (trapsTo s 0x07)
    checks (.ldsba rd rs1) 1 .read ∧ checks (.ldsha rd rs1) 2 .read ∧ checks (.lduba rd rs1) 1 .read ∧
    checks (.lduha rd rs1) 2 .read ∧ checks (.lda rd rs1) 4 .read ∧ checks (.ldda rd rs1) 8 .read ∧
    checks (.stba rd rs1) 1 .write ∧ checks (.stha rd rs1) 2 .write ∧ checks (.sta rd rs1) 4 .write ∧
    checks (.stda rd rs1) 8 .write ∧ checks (.ldstuba rd rs1) 1 .rmw ∧ checks (.swapa rd rs1) 4 .rmw ∧
    misaligned (.ldsha rd rs1) 2 ∧ misaligned (.lduha rd rs1) 2 ∧ misaligned (.lda rd rs1) 4 ∧ misaligned (.ldda rd rs1) 8 ∧
    misaligned (.stha rd rs1) 2 ∧ misaligned (.sta rd rs1) 4 ∧ misaligned (.stda rd rs1) 8 ∧ misaligned (.swapa rd rs1) 4

/-- An instruction that names an odd register for a doubleword, double or extended operand has no behaviour: it is
refused by name (R203, R269, R273, R275, R431; derived). The refusal, and that it covers an extended operand at
f[30], is the model's choice (log 18, 33); inside the window of a WRPSR the registers and flags read are open
values, the model's choice (log 9). -/
def Obligations.OddPairStops : Prop :=
  (∀ (s : State) (rd rs1 rs2 : RegNum) (asi : BitVec 8) (src2 : Operand2), rd.toNat % 2 = 1 →
    exec (.ldd rd rs1 src2) s = .refused (.oddRegister rd) ∧ exec (.std rd rs1 src2) s = .refused (.oddRegister rd) ∧
    (s.supervisor = true → exec (.ldda rd rs1 (.reg asi rs2)) s = .refused (.oddRegister rd) ∧
      exec (.stda rd rs1 (.reg asi rs2)) s = .refused (.oddRegister rd)) ∧
    (s.efView = true → s.platform.fpuPresent = true → exec (.lddf rd rs1 src2) s = .refused (.oddRegister rd) ∧
      exec (.stdf rd rs1 src2) s = .refused (.oddRegister rd)) ∧
    (s.ecView = true → s.platform.cpPresent = true → exec (.lddc rd rs1 src2) s = .refused (.oddRegister rd) ∧
      exec (.stdc rd rs1 src2) s = .refused (.oddRegister rd))) ∧
  (∀ (i : Instr) (s : State), i.wellFormed = false → isFloatingPoint i = true → fpuReady s →
    s.platform.extendedImplemented = true ∨ isExtended i = false → ∃ r, exec i s = .refused (.oddRegister r))

/-- The sixteen Bicc branch on their icc test, with the annul bit, and change PC and nPC only (R360, R361, R362,
R364; derived). Inside the window of a WRPSR the registers and flags read are open values, the model's choice
(log 9). -/
def Obligations.BiccOutcomes : Prop :=
  ∀ (s : State) (a : Bool) (disp22 : BitVec 22), s.prev ≠ .condBranch →
    let n := s.iccView.n
    let z := s.iccView.z
    let v := s.iccView.v
    let c := s.iccView.c
    completes (exec (.bn a disp22) s) (branchEffect s false false a disp22) ∧
    completes (exec (.be a disp22) s) (branchEffect s false z a disp22) ∧
    completes (exec (.ble a disp22) s) (branchEffect s false (z || (n ^^ v)) a disp22) ∧
    completes (exec (.bl a disp22) s) (branchEffect s false (n ^^ v) a disp22) ∧
    completes (exec (.bleu a disp22) s) (branchEffect s false (c || z) a disp22) ∧
    completes (exec (.bcs a disp22) s) (branchEffect s false c a disp22) ∧
    completes (exec (.bneg a disp22) s) (branchEffect s false n a disp22) ∧
    completes (exec (.bvs a disp22) s) (branchEffect s false v a disp22) ∧
    completes (exec (.ba a disp22) s) (branchEffect s true true a disp22) ∧
    completes (exec (.bne a disp22) s) (branchEffect s false (!z) a disp22) ∧
    completes (exec (.bg a disp22) s) (branchEffect s false (!(z || (n ^^ v))) a disp22) ∧
    completes (exec (.bge a disp22) s) (branchEffect s false (!(n ^^ v)) a disp22) ∧
    completes (exec (.bgu a disp22) s) (branchEffect s false (!(c || z)) a disp22) ∧
    completes (exec (.bcc a disp22) s) (branchEffect s false (!c) a disp22) ∧
    completes (exec (.bpos a disp22) s) (branchEffect s false (!n) a disp22) ∧
    completes (exec (.bvc a disp22) s) (branchEffect s false (!v) a disp22)

/-- The sixteen FBfcc branch on FSR.fcc where the FPU is ready (R360, R362, R370, R371, R585; derived). Inside the
window of a WRPSR EF is an open value, the model's choice (log 9). -/
def Obligations.FbfccOutcomes : Prop :=
  ∀ (s : State) (a : Bool) (disp22 : BitVec 22), s.prev ≠ .condBranch → fpuReady s →
    completes (exec (.fbn a disp22) s) (branchEffect s false false a disp22) ∧
    completes (exec (.fba a disp22) s) (branchEffect s true true a disp22) ∧
    (s.prev ≠ .fp →
      completes (exec (.fbne a disp22) s) (branchEffect s false (decide (s.fsr.fcc.toNat ∈ ([1, 2, 3] : List Nat))) a disp22) ∧
      completes (exec (.fblg a disp22) s) (branchEffect s false (decide (s.fsr.fcc.toNat ∈ ([1, 2] : List Nat))) a disp22) ∧
      completes (exec (.fbul a disp22) s) (branchEffect s false (decide (s.fsr.fcc.toNat ∈ ([1, 3] : List Nat))) a disp22) ∧
      completes (exec (.fbl a disp22) s) (branchEffect s false (decide (s.fsr.fcc.toNat ∈ ([1] : List Nat))) a disp22) ∧
      completes (exec (.fbug a disp22) s) (branchEffect s false (decide (s.fsr.fcc.toNat ∈ ([2, 3] : List Nat))) a disp22) ∧
      completes (exec (.fbg a disp22) s) (branchEffect s false (decide (s.fsr.fcc.toNat ∈ ([2] : List Nat))) a disp22) ∧
      completes (exec (.fbu a disp22) s) (branchEffect s false (decide (s.fsr.fcc.toNat ∈ ([3] : List Nat))) a disp22) ∧
      completes (exec (.fbe a disp22) s) (branchEffect s false (decide (s.fsr.fcc.toNat ∈ ([0] : List Nat))) a disp22) ∧
      completes (exec (.fbue a disp22) s) (branchEffect s false (decide (s.fsr.fcc.toNat ∈ ([0, 3] : List Nat))) a disp22) ∧
      completes (exec (.fbge a disp22) s) (branchEffect s false (decide (s.fsr.fcc.toNat ∈ ([0, 2] : List Nat))) a disp22) ∧
      completes (exec (.fbuge a disp22) s) (branchEffect s false (decide (s.fsr.fcc.toNat ∈ ([0, 2, 3] : List Nat))) a disp22) ∧
      completes (exec (.fble a disp22) s) (branchEffect s false (decide (s.fsr.fcc.toNat ∈ ([0, 1] : List Nat))) a disp22) ∧
      completes (exec (.fbule a disp22) s) (branchEffect s false (decide (s.fsr.fcc.toNat ∈ ([0, 1, 3] : List Nat))) a disp22) ∧
      completes (exec (.fbo a disp22) s) (branchEffect s false (decide (s.fsr.fcc.toNat ∈ ([0, 1, 2] : List Nat))) a disp22))

/-- The sixteen CBccc branch on CCC where the coprocessor is ready (R360, R362, R375, R376, R586; derived). Inside
the window of a WRPSR EC is an open value, the model's choice (log 9); the coprocessor is open functions (log
32). -/
def Obligations.CbcccOutcomes : Prop :=
  ∀ (s : State) (a : Bool) (disp22 : BitVec 22), s.prev ≠ .condBranch → s.ecView = true → s.platform.cpPresent = true →
    s.cp.exceptionPending = false →
    completes (exec (.cbn a disp22) s) (branchEffect s false false a disp22) ∧
    completes (exec (.cba a disp22) s) (branchEffect s true true a disp22) ∧
    (s.prev ≠ .cp →
      completes (exec (.cb123 a disp22) s) (branchEffect s false (decide (s.cp.ccc.toNat ∈ ([1, 2, 3] : List Nat))) a disp22) ∧
      completes (exec (.cb12 a disp22) s) (branchEffect s false (decide (s.cp.ccc.toNat ∈ ([1, 2] : List Nat))) a disp22) ∧
      completes (exec (.cb13 a disp22) s) (branchEffect s false (decide (s.cp.ccc.toNat ∈ ([1, 3] : List Nat))) a disp22) ∧
      completes (exec (.cb1 a disp22) s) (branchEffect s false (decide (s.cp.ccc.toNat ∈ ([1] : List Nat))) a disp22) ∧
      completes (exec (.cb23 a disp22) s) (branchEffect s false (decide (s.cp.ccc.toNat ∈ ([2, 3] : List Nat))) a disp22) ∧
      completes (exec (.cb2 a disp22) s) (branchEffect s false (decide (s.cp.ccc.toNat ∈ ([2] : List Nat))) a disp22) ∧
      completes (exec (.cb3 a disp22) s) (branchEffect s false (decide (s.cp.ccc.toNat ∈ ([3] : List Nat))) a disp22) ∧
      completes (exec (.cb0 a disp22) s) (branchEffect s false (decide (s.cp.ccc.toNat ∈ ([0] : List Nat))) a disp22) ∧
      completes (exec (.cb03 a disp22) s) (branchEffect s false (decide (s.cp.ccc.toNat ∈ ([0, 3] : List Nat))) a disp22) ∧
      completes (exec (.cb02 a disp22) s) (branchEffect s false (decide (s.cp.ccc.toNat ∈ ([0, 2] : List Nat))) a disp22) ∧
      completes (exec (.cb023 a disp22) s) (branchEffect s false (decide (s.cp.ccc.toNat ∈ ([0, 2, 3] : List Nat))) a disp22) ∧
      completes (exec (.cb01 a disp22) s) (branchEffect s false (decide (s.cp.ccc.toNat ∈ ([0, 1] : List Nat))) a disp22) ∧
      completes (exec (.cb013 a disp22) s) (branchEffect s false (decide (s.cp.ccc.toNat ∈ ([0, 1, 3] : List Nat))) a disp22) ∧
      completes (exec (.cb012 a disp22) s) (branchEffect s false (decide (s.cp.ccc.toNat ∈ ([0, 1, 2] : List Nat))) a disp22))

/-- CALL and JMPL link their own address and jump after the delay instruction (R380, R382, R43; derived). Inside the
window of a WRPSR the registers and flags read are open values, the model's choice (log 9), and trap or error
mode is a draw (log 12). -/
def Obligations.CallAndJump : Prop :=
  ∀ (s : State) (rd rs1 : RegNum) (src2 : Operand2) (disp30 : BitVec 30), s.prev ≠ .condBranch →
    let target := s.reg rs1 + s.operand2 src2
    (completes (exec (.call disp30) s) fun t =>
      writesReg s t s.cwpView 15 s.pc ∧ t.pc = s.npc ∧ t.npc = s.pc + BitVec.ofNat 32 (4 * disp30.toNat) ∧ t.psr = s.psr ∧
      keepsRest s t) ∧
    (target.toNat % 4 = 0 → completes (exec (.jmpl rd rs1 src2) s) fun t =>
      writesReg s t s.cwpView rd s.pc ∧ t.pc = s.npc ∧ t.npc = target ∧ t.psr = s.psr ∧ keepsRest s t) ∧
    (target.toNat % 4 ≠ 0 → completes (exec (.jmpl rd rs1 src2) s) (trapsTo s 0x07))

/-- RETT returns: ET = 1, S from PS, CWP + 1; its failed checks trap or enter error mode (R384, R385, R527, R525;
derived). -/
def Obligations.ReturnFromTrap : Prop :=
  (∀ (s : State) (rd rs1 : RegNum) (src2 : Operand2) (cwp : BitVec 5), s.prev ≠ .condBranch → s.psrWrite.left = 0 →
    s.wimWrite.left = 0 → s.psr.et = false → s.psr.s = true → cwp.toNat = (s.psr.cwp.toNat + 1) % 8 →
    s.wim.getLsbD cwp.toNat = false → (s.reg rs1 + s.operand2 src2).toNat % 4 = 0 →
    completes (exec (.rett rd rs1 src2) s) fun t =>
      t.psr = { s.psr with et := true, s := s.psr.ps, cwp := cwp } ∧ t.pc = s.npc ∧ t.npc = s.reg rs1 + s.operand2 src2 ∧
      keepsRegs s t ∧ keepsRest s t) ∧
  (∀ (s : State) (rd rs1 : RegNum) (src2 : Operand2), s.prev ≠ .condBranch → s.psrWrite.left = 0 → s.wimWrite.left = 0 →
    let invalid := s.wim.getLsbD ((s.psr.cwp.toNat + 1) % 8)
    let target := s.reg rs1 + s.operand2 src2
    (s.psr.et = true → completes (exec (.rett rd rs1 src2) s) (trapsTo s 0x02)) ∧
    (s.psr.et = false →
      (s.psr.s = false → completes (exec (.rett rd rs1 src2) s) (trapsTo s 0x03)) ∧
      (s.psr.s = true → invalid = true → completes (exec (.rett rd rs1 src2) s) (trapsTo s 0x06)) ∧
      (s.psr.s = true → invalid = false → target.toNat % 4 ≠ 0 →
        completes (exec (.rett rd rs1 src2) s) (trapsTo s 0x07))))

/-- The sixteen Ticc trap with tt = 128 + the low seven bits of the sum where the condition holds, and advance where
not (R361, R390; derived). Inside the window of a WRPSR the registers and flags read are open values, the
model's choice (log 9), and trap or error mode is a draw (log 12). -/
def Obligations.TiccOutcomes : Prop :=
  ∀ (s : State) (ign : Bool) (rs1 : RegNum) (src2 : Operand2),
    let n := s.iccView.n
    let z := s.iccView.z
    let v := s.iccView.v
    let c := s.iccView.c
    let tt := BitVec.ofNat 8 (128 + (s.reg rs1 + s.operand2 src2).toNat % 128)
    let ticc (i : Instr) (taken : Bool) : Prop := completes (exec i s)
      (if taken then trapsTo s tt else fun t => keepsRegs s t ∧ t.psr = s.psr ∧ keepsRest s t ∧ advanced s t)
    ticc (.tn ign rs1 src2) false ∧ ticc (.te ign rs1 src2) z ∧ ticc (.tle ign rs1 src2) (z || (n ^^ v)) ∧ ticc (.tl ign rs1 src2) (n ^^ v) ∧
    ticc (.tleu ign rs1 src2) (c || z) ∧ ticc (.tcs ign rs1 src2) c ∧ ticc (.tneg ign rs1 src2) n ∧ ticc (.tvs ign rs1 src2) v ∧
    ticc (.ta ign rs1 src2) true ∧ ticc (.tne ign rs1 src2) (!z) ∧ ticc (.tg ign rs1 src2) (!(z || (n ^^ v))) ∧ ticc (.tge ign rs1 src2) (!(n ^^ v)) ∧
    ticc (.tgu ign rs1 src2) (!(c || z)) ∧ ticc (.tcc ign rs1 src2) (!c) ∧ ticc (.tpos ign rs1 src2) (!n) ∧ ticc (.tvc ign rs1 src2) (!v)

/-- A delayed control transfer executed as the delay instruction of a conditional branch is refused by name (R363,
R576; derived). The refusal, and how a trap between branch and delay instruction is followed, is the model's
choice (log 17). -/
def Obligations.TransferInDelaySlotStops : Prop :=
  (∀ (i : Instr) (s : State), isDelayedTransfer i = true → s.prev = .condBranch →
    exec i s = .refused .transferInDelaySlot) ∧
  (∀ (i : Instr) (s t : State), exec i s = .next t → ¬ trapped s t →
    (t.prev = .condBranch ↔ isConditionalBranch i = true ∧ t.pc = s.npc ∨
      (∃ rd rs1 src2, i = .rett rd rs1 src2) ∧ (⟨t.pc, t.npc⟩ : DelaySlot) ∈ s.pausedDelays)) ∧
  (∀ (s : State) (tr : Trap), (s.enterTrap tr).prev ≠ .condBranch ∧
    ((⟨s.pc, s.npc⟩ : DelaySlot) ∈ (s.enterTrap tr).pausedDelays ↔ s.prev = .condBranch) ∧
    ∀ d : DelaySlot, d ≠ ⟨s.pc, s.npc⟩ → (d ∈ (s.enterTrap tr).pausedDelays ↔ d ∈ s.pausedDelays))

/-- An instruction that is no control transfer and does not trap ends with PC <- nPC, nPC <- nPC + 4 (R42; stated). -/
def Obligations.NonTransfersAdvance : Prop :=
  ∀ (i : Instr) (s t : State), isDelayedTransfer i = false → exec i s = .next t → advanced s t ∨ trapped s t

/-- RDY, RDPSR, RDWIM and RDTBR write the register in r[rd] (R403, R404, R405, R406, R45, R49, R50; derived). Inside
the window of a WRPSR the window written and the privilege test are open values, the model's choice (log 9, 11). -/
def Obligations.ReadStateRegisters : Prop :=
  ∀ (s : State) (rd rs1 : RegNum) (low : BitVec 14),
    let psr : Nat := Config.psrImpl.toNat * 2 ^ 28 + Config.psrVer.toNat * 2 ^ 24 + s.psr.icc.n.toNat * 2 ^ 23 +
      s.psr.icc.z.toNat * 2 ^ 22 + s.psr.icc.v.toNat * 2 ^ 21 + s.psr.icc.c.toNat * 2 ^ 20 + s.psr.ec.toNat * 2 ^ 13 +
      s.psr.ef.toNat * 2 ^ 12 + s.psr.pil.toNat * 2 ^ 8 + s.psr.s.toNat * 2 ^ 7 + s.psr.ps.toNat * 2 ^ 6 +
      s.psr.et.toNat * 2 ^ 5 + s.psr.cwp.toNat
    (s.yWrite.left = 0 → completes (exec (.rdy rd rs1 low) s) (aluEffect s rd s.y s.psr.icc)) ∧
    (s.supervisor = true →
      (s.psrWrite.left = 0 → completes (exec (.rdpsr rd rs1 low) s) (aluEffect s rd (BitVec.ofNat 32 psr) s.psr.icc)) ∧
      (s.wimWrite.left = 0 → completes (exec (.rdwim rd rs1 low) s) (aluEffect s rd s.wim s.psr.icc)) ∧
      (s.tbrWrite.left = 0 → completes (exec (.rdtbr rd rs1 low) s) (aluEffect s rd s.tbr s.psr.icc)))

/-- WRY, WRPSR, WRWIM and WRTBR write the exclusive-or of r[rs1] and operand2 in the writable fields (R400, R401,
R402, R407, R408, R409, R410, R579; derived). Inside the window of a WRPSR the registers and flags read are open
values, the model's choice (log 9), and so is the privilege test (log 11). -/
def Obligations.WriteStateRegisters : Prop :=
  ∀ (s : State) (rd rs1 : RegNum) (src2 : Operand2),
    let v := s.reg rs1 ^^^ s.operand2 src2
    let rest (t : State) : Prop := keepsRegs s t ∧ keepsFpu s t ∧ t.cp = s.cp ∧ keepsMemory s t ∧ keepsOutside s t ∧ advanced s t
    (completes (exec (.wry rd rs1 src2) s) fun t =>
      t.y = v ∧ t.wim = s.wim ∧ t.tbr = s.tbr ∧ t.psr = s.psr ∧ t.yWrite.left = 3 ∧ rest t) ∧
    (s.supervisor = true →
      (v.toNat % 32 < 8 → completes (exec (.wrpsr rd rs1 src2) s) fun t =>
        t.psr = { icc := ⟨v.getLsbD 23, v.getLsbD 22, v.getLsbD 21, v.getLsbD 20⟩, ec := v.getLsbD 13, ef := v.getLsbD 12,
                  pil := BitVec.ofNat 4 (v.toNat / 2 ^ 8), s := v.getLsbD 7, ps := v.getLsbD 6, et := v.getLsbD 5,
                  cwp := BitVec.ofNat 5 v.toNat } ∧ keepsControl s t ∧ t.psrWrite.left = 3 ∧ rest t) ∧
      (completes (exec (.wrwim rd rs1 src2) s) fun t =>
        t.wim = BitVec.ofNat 32 (v.toNat % 256) ∧ t.y = s.y ∧ t.tbr = s.tbr ∧ t.psr = s.psr ∧ t.wimWrite.left = 3 ∧ rest t) ∧
      (completes (exec (.wrtbr rd rs1 src2) s) fun t =>
        t.tbr = BitVec.ofNat 32 (v.toNat / 4096 * 4096 + (ttOf s.tbr).toNat * 16) ∧ t.y = s.y ∧ t.wim = s.wim ∧ t.psr = s.psr ∧
        t.tbrWrite.left = 3 ∧ rest t))

/-- In user mode the state-register instructions, STDFQ and STDCQ trap privileged_instruction (R400, R408, R550,
R267, R277; derived). Inside the window of a WRPSR the registers and flags read are open values, the model's
choice (log 9), and trap or error mode is a draw (log 12), and so is the privilege test (log 11). -/
def Obligations.PrivilegedInstructionsTrap : Prop :=
  ∀ (s : State) (rd rs1 : RegNum) (low : BitVec 14) (src2 : Operand2),
    let v := s.reg rs1 ^^^ s.operand2 src2
    (s.supervisor = false →
      completes (exec (.rdpsr rd rs1 low) s) (trapsTo s 0x03) ∧ completes (exec (.rdwim rd rs1 low) s) (trapsTo s 0x03) ∧
      completes (exec (.rdtbr rd rs1 low) s) (trapsTo s 0x03) ∧ completes (exec (.wrwim rd rs1 src2) s) (trapsTo s 0x03) ∧
      completes (exec (.wrtbr rd rs1 src2) s) (trapsTo s 0x03) ∧ completes (exec (.stdfq rd rs1 src2) s) (trapsTo s 0x03) ∧
      completes (exec (.stdcq rd rs1 src2) s) (trapsTo s 0x03) ∧
      (v.toNat % 32 < 8 → completes (exec (.wrpsr rd rs1 src2) s) (trapsTo s 0x03))) ∧
    (8 ≤ v.toNat % 32 → completes (exec (.wrpsr rd rs1 src2) s) (trapsTo s 0x02))

/-- A delayed write is certain after three instructions, and at once in a trap handler (R402, R579; derived). What
the reads give inside a window is the model's choice (log 9). -/
def Obligations.DelayedWritesSettle : Prop :=
  (∀ (s : State) (tr : Trap), (s.enterTrap tr).psrRead = (s.enterTrap tr).psr.toWord ∧
    (s.enterTrap tr).wimRead = (s.enterTrap tr).wim ∧ (s.enterTrap tr).tbrRead = (s.enterTrap tr).tbr ∧
    (s.enterTrap tr).yView = (s.enterTrap tr).y) ∧
  (∀ s : State, s.psrWrite.left ≤ 3 → s.wimWrite.left ≤ 3 → s.tbrWrite.left ≤ 3 → s.yWrite.left ≤ 3 →
    let t := s.advance.advance.advance
    t.psrRead = t.psr.toWord ∧ t.wimRead = t.wim ∧ t.tbrRead = t.tbr ∧ t.yView = t.y) ∧
  (∀ (i : Instr) (s t : State), isStateWrite i = false → exec i s = .next t →
    t.psrWrite.left ≤ s.psrWrite.left ∧ t.wimWrite.left ≤ s.wimWrite.left ∧ t.tbrWrite.left ≤ s.tbrWrite.left ∧
    t.yWrite.left ≤ s.yWrite.left ∧
    (¬ trapped s t →
      t.psrWrite.left = s.psrWrite.left - 1 ∧ t.wimWrite.left = s.wimWrite.left - 1 ∧
      t.tbrWrite.left = s.tbrWrite.left - 1 ∧ t.yWrite.left = s.yWrite.left - 1))

/-- FMOVs, FNEGs and FABSs move one word, with the sign bit kept, inverted or cleared (R440, R441, R442, R432;
derived). That the moves clear cexc and ftt follows R440 to R442 where a row of the vectors file says otherwise
(log 28). -/
def Obligations.FpMoves : Prop :=
  ∀ (s : State) (rd rs1 rs2 : RegNum), fpuReady s →
    let v := s.freg rs2
    (completes (exec (.fmovs rd rs1 rs2) s) fun t => writesF s t rd v ∧ fpopDone s 0 s.fsr.fcc t) ∧
    (completes (exec (.fnegs rd rs1 rs2) s) fun t =>
      writesF s t rd (BitVec.ofNat 32 ((v.toNat + 2 ^ 31) % 2 ^ 32)) ∧ fpopDone s 0 s.fsr.fcc t) ∧
    (completes (exec (.fabss rd rs1 rs2) s) fun t =>
      writesF s t rd (BitVec.ofNat 32 (v.toNat % 2 ^ 31)) ∧ fpopDone s 0 s.fsr.fcc t)

/-- FADDs, FSUBs, FMULs, FDIVs and FSQRTs write the rounded result or the NaN, or fail unfinished or on an enabled
exception (R432, R435, R436, R437, R443, R446, R449, R452, R455; derived). The arithmetic is that of ANSI/IEEE
754-1985, supplied by the model (log 39); NaN bits, tininess and UnfinishedFPop are open (log 22, 24, 25, 27). -/
def Obligations.FpArithmeticSingle : Prop :=
  ∀ (s : State) (rd rs1 rs2 : RegNum), fpuReady s →
    let a := s.freg rs1
    let b := s.freg rs2
    let ends (i : Instr) (opf : BitVec 9) (first : Word) (exotic : Bool) (x : Exact) : Prop :=
      let nan := Config.nanSingle opf (first.setWidth 64) (b.setWidth 64) ||| 0x7FC00000#32
      let r := singleFormat.finish s.fsr.rd s.ufm nan.toNat x
      fpopEnds s i ((exotic || r.exotic) && s.declines opf (first.setWidth 96) (b.setWidth 96)) r.flags s.fsr.fcc fun t =>
        writesF s t rd (BitVec.ofNat 32 r.bits)
    let exotic := exoticS a || exoticS b
    ends (.fadds rd rs1 rs2) 0x041 a exotic (exactAdd s.fsr.rd (numberS a) (numberS b)) ∧
    ends (.fsubs rd rs1 rs2) 0x045 a exotic (exactSub s.fsr.rd (numberS a) (numberS b)) ∧
    ends (.fmuls rd rs1 rs2) 0x049 a exotic (exactMul (numberS a) (numberS b)) ∧
    ends (.fdivs rd rs1 rs2) 0x04D a exotic (exactDiv singleFormat (numberS a) (numberS b)) ∧
    ends (.fsqrts rd rs1 rs2) 0x029 0 (exoticS b) (exactSqrt singleFormat (numberS b))

/-- FADDd, FSUBd, FMULd, FDIVd and FSQRTd write the rounded double result or the NaN, or fail unfinished or on an
enabled exception (R432, R435, R436, R437, R444, R447, R450, R453, R456; derived). The arithmetic is that of
ANSI/IEEE 754-1985, supplied by the model (log 39); NaN bits, tininess and UnfinishedFPop are open (log 22, 24,
25, 27). -/
def Obligations.FpArithmeticDouble : Prop :=
  ∀ (s : State) (rd rs1 rs2 : RegNum), fpuReady s → rd.toNat % 2 = 0 → rs2.toNat % 2 = 0 →
    let a := s.fdouble rs1
    let b := s.fdouble rs2
    let ends (i : Instr) (opf : BitVec 9) (first : Doubleword) (exotic : Bool) (x : Exact) : Prop :=
      let nan := Config.nanDouble opf first b ||| 0x7FF8000000000000#64
      let r := doubleFormat.finish s.fsr.rd s.ufm nan.toNat x
      fpopEnds s i ((exotic || r.exotic) && s.declines opf (first.setWidth 96) (b.setWidth 96)) r.flags s.fsr.fcc fun t =>
        writesFPair s t rd (BitVec.ofNat 64 r.bits)
    let exotic := exoticD a || exoticD b
    (rs1.toNat % 2 = 0 →
      ends (.faddd rd rs1 rs2) 0x042 a exotic (exactAdd s.fsr.rd (numberD a) (numberD b)) ∧
      ends (.fsubd rd rs1 rs2) 0x046 a exotic (exactSub s.fsr.rd (numberD a) (numberD b)) ∧
      ends (.fmuld rd rs1 rs2) 0x04A a exotic (exactMul (numberD a) (numberD b)) ∧
      ends (.fdivd rd rs1 rs2) 0x04E a exotic (exactDiv doubleFormat (numberD a) (numberD b))) ∧
    ends (.fsqrtd rd rs1 rs2) 0x02A 0 (exoticD b) (exactSqrt doubleFormat (numberD b))

/-- The six single, double and integer conversions write the converted value, or fail unfinished or on an enabled
exception (R458, R459, R461, R462, R464, R466, R432, R435, R436, R437; derived). The arithmetic is that of
ANSI/IEEE 754-1985, supplied by the model (log 39); the range test after truncation is the model's, the invalid
integer and UnfinishedFPop are open (log 23, 25, 27). -/
def Obligations.FpConversions : Prop :=
  ∀ (s : State) (rd rs1 rs2 : RegNum), fpuReady s →
    let w := s.freg rs2
    let d := s.fdouble rs2
    let declined (opf : BitVec 9) (operand : Doubleword) (exotic : Bool) : Bool :=
      exotic && s.declines opf 0 (operand.setWidth 96)
    let single (i : Instr) (opf : BitVec 9) (operand : Doubleword) (exotic : Bool) (x : Exact) : Prop :=
      let r := singleFormat.finish s.fsr.rd s.ufm (Config.nanSingle opf 0 operand ||| 0x7FC00000#32).toNat x
      fpopEnds s i (declined opf operand (exotic || r.exotic)) r.flags s.fsr.fcc fun t => writesF s t rd (BitVec.ofNat 32 r.bits)
    let double (i : Instr) (opf : BitVec 9) (operand : Doubleword) (exotic : Bool) (x : Exact) : Prop :=
      let r := doubleFormat.finish s.fsr.rd s.ufm (Config.nanDouble opf 0 operand ||| 0x7FF8000000000000#64).toNat x
      rd.toNat % 2 = 0 → fpopEnds s i (declined opf operand (exotic || r.exotic)) r.flags s.fsr.fcc fun t =>
        writesFPair s t rd (BitVec.ofNat 64 r.bits)
    let integer (i : Instr) (opf : BitVec 9) (operand : Doubleword) (exotic : Bool) (x : Number) : Prop :=
      (∀ (neg : Bool) (whole : Nat) (rest : ℚ), 0 ≤ rest → rest < 1 →
        x.value = some ((if neg then -1 else 1) * ((whole : ℚ) + rest)) → (whole < 2 ^ 31 ∨ neg = true ∧ whole = 2 ^ 31) →
        fpopEnds s i (declined opf operand exotic) (if rest = 0 then 0 else 1) s.fsr.fcc fun t =>
          writesF s t rd (BitVec.ofInt 32 (if neg then -(whole : Int) else whole))) ∧
      ((∃ b, x = .nan b) ∨ (∃ b, x = .infinity b) ∨ (∃ v, x.value = some v ∧ (v ≤ -2 ^ 31 - 1 ∨ 2 ^ 31 ≤ v)) →
        fpopEnds s i (declined opf operand exotic) 0x10 s.fsr.fcc fun t => writesF s t rd (Config.invalidInt opf operand))
    single (.fitos rd rs1 rs2) 0x0C4 0 false (exactOfInt w.toInt) ∧ double (.fitod rd rs1 rs2) 0x0C8 0 false (exactOfInt w.toInt) ∧
    double (.fstod rd rs1 rs2) 0x0C9 (w.setWidth 64) (exoticS w) (exactOf (numberS w)) ∧
    integer (.fstoi rd rs1 rs2) 0x0D1 (w.setWidth 64) (exoticS w) (numberS w) ∧
    (rs2.toNat % 2 = 0 → single (.fdtos rd rs1 rs2) 0x0C6 d (exoticD d) (exactOf (numberD d)) ∧
      integer (.fdtoi rd rs1 rs2) 0x0D2 d (exoticD d) (numberD d))

/-- FCMPs, FCMPd, FCMPEs and FCMPEd set fcc by the relation of their operands, NaNs included (R470, R471, R472,
R474, R475, R432, R435, R437; derived). The order and which NaNs are signaling is that of ANSI/IEEE 754-1985,
supplied by the model (log 39); UnfinishedFPop is open (log 25). -/
def Obligations.FpCompares : Prop :=
  ∀ (s : State) (rd rs1 rs2 : RegNum), fpuReady s →
    let relation (x y : Number) (fcc : BitVec 2) : Prop :=
      x.below y ∧ fcc = 1 ∨ y.below x ∧ fcc = 2 ∨ x.equals y ∧ fcc = 0 ∨ ((∃ q, x = .nan q) ∨ ∃ q, y = .nan q) ∧ fcc = 3
    let compared (i : Instr) (opf : BitVec 9) (a b : BitVec 96) (exotic : Bool) (x y : Number) (signalAll : Bool) : Prop :=
      let signaling : Bool := decide (x = .nan true ∨ y = .nan true)
      let quiet : Bool := decide (x = .nan false ∨ y = .nan false)
      ∃ fcc, relation x y fcc ∧
        fpopEnds s i (exotic && s.declines opf a b) (if signaling || signalAll && quiet then 0x10 else 0) fcc fun t => t.f = s.f
    (let a := s.freg rs1
     let b := s.freg rs2
     let single (i : Instr) (opf : BitVec 9) (signalAll : Bool) : Prop :=
       compared i opf (a.setWidth 96) (b.setWidth 96) (exoticS a || exoticS b) (numberS a) (numberS b) signalAll
     single (.fcmps rd rs1 rs2) 0x051 false ∧ single (.fcmpes rd rs1 rs2) 0x055 true) ∧
    (rs1.toNat % 2 = 0 → rs2.toNat % 2 = 0 →
     let a := s.fdouble rs1
     let b := s.fdouble rs2
     let double (i : Instr) (opf : BitVec 9) (signalAll : Bool) : Prop :=
       compared i opf (a.setWidth 96) (b.setWidth 96) (exoticD a || exoticD b) (numberD a) (numberD b) signalAll
     double (.fcmpd rd rs1 rs2) 0x052 false ∧ double (.fcmped rd rs1 rs2) 0x056 true)

/-- The thirteen extended FPops write the result of their open format, or without extended precision fail as
unimplemented_FPop (R431, R432, R436, R437, R445, R448, R451, R454, R457, R460, R463, R465, R467, R468, R469,
R470, R473, R476; derived). The format is open functions, and f[30] names no extended operand (log 18, 26); that
ftt = 3 comes before the register test is the model's choice (log 26, 33), UnfinishedFPop is open (log 25). -/
def Obligations.ExtendedOperations : Prop :=
  (∀ (s : State) (rd rs1 rs2 : RegNum), fpuReady s → s.platform.extendedImplemented = true →
    let a := s.fextended rs1
    let b := s.fextended rs2
    let word := (s.freg rs2).setWidth 96
    let extended (i : Instr) (opf : BitVec 9) (may : BitVec 5) (x y : BitVec 96) : Prop := extendedReg rd = true →
      fpopEnds s i (decide (may ≠ 0) && s.declines opf x y) (Config.extendedFlags opf s.fsr.rd s.fsr.rp x y &&& may) s.fsr.fcc
        fun t => writesFTriple s t rd (Config.extendedResult opf s.fsr.rd s.fsr.rp x y)
    let compared (i : Instr) (opf : BitVec 9) (signalAll : Bool) : Prop :=
      let nanA := Config.extendedIsNan a
      let nanB := Config.extendedIsNan b
      let invalid : Bool := nanA && (signalAll || Config.extendedIsSignaling a) || nanB && (signalAll || Config.extendedIsSignaling b)
      ∃ fcc : BitVec 2, (fcc = 3 ↔ nanA = true ∨ nanB = true) ∧
        (nanA = false → nanB = false → (fcc = 0 ↔ Config.extendedOrder a b = .eq) ∧ (fcc = 1 ↔ Config.extendedOrder a b = .lt)) ∧
        fpopEnds s i (s.declines opf a b) (if invalid then 0x10 else 0) fcc fun t => t.f = s.f
    (extendedReg rs1 = true → extendedReg rs2 = true →
      extended (.faddx rd rs1 rs2) 0x043 0x1D a b ∧ extended (.fsubx rd rs1 rs2) 0x047 0x1D a b ∧
      extended (.fmulx rd rs1 rs2) 0x04B 0x1D a b ∧ extended (.fdivx rd rs1 rs2) 0x04F 0x1F a b ∧
      compared (.fcmpx rd rs1 rs2) 0x053 false ∧ compared (.fcmpex rd rs1 rs2) 0x057 true) ∧
    (extendedReg rs2 = true → extended (.fsqrtx rd rs1 rs2) 0x02B 0x11 0 b ∧
      fpopEnds s (.fxtoi rd rs1 rs2) (s.declines 0x0D3 0 b) (Config.extendedIntFlags b &&& 0x11) s.fsr.fcc
        (fun t => writesF s t rd (Config.extendedInt b)) ∧
      fpopEnds s (.fxtos rd rs1 rs2) (s.declines 0x0C7 0 b) (Config.extendedNarrowFlags 0x0C7 s.fsr.rd b &&& 0x1D) s.fsr.fcc
        (fun t => writesF s t rd ((Config.extendedNarrow 0x0C7 s.fsr.rd b).extractLsb' 0 32)) ∧
      (rd.toNat % 2 = 0 →
        fpopEnds s (.fxtod rd rs1 rs2) (s.declines 0x0CB 0 b) (Config.extendedNarrowFlags 0x0CB s.fsr.rd b &&& 0x1D) s.fsr.fcc
          fun t => writesFPair s t rd (Config.extendedNarrow 0x0CB s.fsr.rd b))) ∧
    extended (.fitox rd rs1 rs2) 0x0CC 0 0 word ∧ extended (.fstox rd rs1 rs2) 0x0CD 0x10 0 word ∧
    (rs2.toNat % 2 = 0 → extended (.fdtox rd rs1 rs2) 0x0CE 0x10 0 ((s.fdouble rs2).setWidth 96))) ∧
  (∀ (s : State) (rd rs1 rs2 : RegNum), fpuReady s → s.platform.extendedImplemented = false →
    ∀ i ∈ [Instr.fsqrtx rd rs1 rs2, .faddx rd rs1 rs2, .fsubx rd rs1 rs2, .fmulx rd rs1 rs2, .fdivx rd rs1 rs2,
           .fitox rd rs1 rs2, .fxtoi rd rs1 rs2, .fstox rd rs1 rs2, .fdtox rd rs1 rs2, .fxtos rd rs1 rs2,
           .fxtod rd rs1 rs2, .fcmpx rd rs1 rs2, .fcmpex rd rs1 rs2],
      completes (exec i s) (fpopFails s (encode i) 3 s.fsr.cexc))

/-- An FPop that raises an enabled exception fails with ftt = 1 and leaves registers, fcc and aexc unchanged; ftt =
2 only where declined (R432, R433, R435, R437; derived). The arithmetic is that of ANSI/IEEE 754-1985, supplied
by the model (log 39); that no second enabled bit is set is the model's reading (log 27), the form of
UnfinishedFPop its choice (log 25). -/
def Obligations.FpFailures : Prop :=
  (∀ (i : Instr) (s u : State), fpuReady s → opOf (encode i) = 2#2 → op3Of (encode i) = 0x34#6 ∨ op3Of (encode i) = 0x35#6 →
    exec i { s with fsr := { s.fsr with tem := 0 } } = .next u → u.fpuMode = .execute → u.fsr.cexc &&& s.fsr.tem ≠ 0 →
    ∃ cexc, trapCexcIs s u.fsr.cexc cexc ∧ completes (exec i s) (fpopFails s (encode i) 1 cexc)) ∧
  (∀ (i : Instr) (s t : State), fpuReady s → opOf (encode i) = 2#2 → op3Of (encode i) = 0x34#6 ∨ op3Of (encode i) = 0x35#6 →
    exec i s = .next t → t.fsr.ftt = 2 → ∃ c ∈ s.platform.unfinished, c.opf = opfOf (encode i)) ∧
  (∀ (s : State) (rd rs1 rs2 : RegNum), fpuReady s →
    ∀ neg mant exp, numberS (s.freg rs1) = .finite neg mant exp → mant ≠ 0 → exoticS (s.freg rs1) = false →
      (s.freg rs2).toNat % 2 ^ 31 = 0 → s.fsr.tem.getLsbD 1 = true →
      completes (exec (.fdivs rd rs1 rs2) s) (fpopFails s (encode (.fdivs rd rs1 rs2)) 1 0x02))

/-- A pending floating-point exception is taken at the next floating-point instruction; in exception mode FPops and
loads are sequence errors (R433, R434, R260, R268, R525; derived). FPops trap before their register test, the
model's choice (log 33); what is left with ET = 0 is read from R434 and R525 (log 30); inside the window of a
WRPSR the registers and flags read are open values, the model's choice (log 9), and trap or error mode is a draw
(log 12). -/
def Obligations.PendingExceptionTaken : Prop :=
  ∀ (i : Instr) (s : State), s.efView = true → s.platform.fpuPresent = true → s.prev ≠ .condBranch → isFloatingPoint i = true →
    let pending : Prop :=
      completes (exec i s) (trapsTo (if s.trapsEnabled then { s with fpuMode := .exception } else s) 0x08)
    let sequence : Prop := completes (exec i s) (trapsTo { s with fsr := { s.fsr with ftt := 4 } } 0x08)
    (isStore i = false → (∀ rd rs1 src2, i ≠ .ldf rd rs1 src2 ∧ i ≠ .lddf rd rs1 src2 ∧ i ≠ .ldfsr rd rs1 src2) →
      (s.fpuMode = .exceptionPending → pending) ∧ (s.fpuMode = .exception → sequence)) ∧
    (∀ rd rs1 src2, s.fpuMode = .exceptionPending →
      let ea := s.reg rs1 + s.operand2 src2
      (ea.toNat % 4 = 0 →
        i ∈ [Instr.ldf rd rs1 src2, .ldfsr rd rs1 src2, .stf rd rs1 src2, .stfsr rd rs1 src2] → pending) ∧
      (ea.toNat % 8 = 0 → rd.toNat % 2 = 0 → i ∈ [Instr.lddf rd rs1 src2, .stdf rd rs1 src2] → pending) ∧
      (ea.toNat % 8 = 0 → s.supervisor = true → i = .stdfq rd rs1 src2 → pending)) ∧
    (∀ rd rs1 src2, s.fpuMode = .exception →
      let ea := s.reg rs1 + s.operand2 src2
      (ea.toNat % 4 = 0 → i ∈ [Instr.ldf rd rs1 src2, .ldfsr rd rs1 src2] → sequence) ∧
      (ea.toNat % 8 = 0 → rd.toNat % 2 = 0 → i = .lddf rd rs1 src2 → sequence))

/-- LDF, LDDF and LDFSR load one word, a pair, or the writable FSR fields (R261, R262, R263, R56; derived). Inside
the window of a WRPSR the registers and flags read are open values, the model's choice (log 9). -/
def Obligations.FpLoads : Prop :=
  ∀ (s : State) (rd rs1 : RegNum) (src2 : Operand2), fpuReady s →
    let ea := s.reg rs1 + s.operand2 src2
    let st := s.dataStorage
    let w := bytesAt s.mem st ea 4
    let same (t : State) : Prop := t.fq = s.fq ∧ t.fpuMode = s.fpuMode ∧ fpuFrame s t
    (dataAllowed s ea 4 .read → (completes (exec (.ldf rd rs1 src2) s) fun t =>
        writesF s t rd (BitVec.ofNat 32 w) ∧ t.fsr = s.fsr ∧ same t) ∧
      (completes (exec (.ldfsr rd rs1 src2) s) fun t => t.f = s.f ∧
        t.fsr = { s.fsr with rd := BitVec.ofNat 2 (w / 2 ^ 30), rp := BitVec.ofNat 2 (w / 2 ^ 28),
                             tem := BitVec.ofNat 5 (w / 2 ^ 23), fcc := BitVec.ofNat 2 (w / 2 ^ 10),
                             aexc := BitVec.ofNat 5 (w / 2 ^ 5), cexc := BitVec.ofNat 5 w } ∧ same t)) ∧
    (rd.toNat % 2 = 0 → dataAllowed s ea 8 .read → completes (exec (.lddf rd rs1 src2) s) fun t =>
      writesFPair s t rd (BitVec.ofNat 64 (bytesAt s.mem st ea 8)) ∧ t.fsr = s.fsr ∧ same t)

/-- STF, STDF and STFSR store one word, a pair, or the FSR, in execute and in exception mode (R264, R265, R266, R56,
R268, R434; derived). Inside the window of a WRPSR the registers and flags read are open values, the model's
choice (log 9); a store in exception mode follows R434 and R268 against R59 (log 28); the form of memory is the
model's (log 3). -/
def Obligations.FpStores : Prop :=
  ∀ (s : State) (rd rs1 : RegNum) (src2 : Operand2), s.efView = true → s.platform.fpuPresent = true →
    s.fpuMode ≠ .exceptionPending → Memory.wf s.mem = true →
    let ea := s.reg rs1 + s.operand2 src2
    let st := s.dataStorage
    let fsr : Nat := s.fsr.rd.toNat * 2 ^ 30 + s.fsr.rp.toNat * 2 ^ 28 + s.fsr.tem.toNat * 2 ^ 23 +
      Config.fsrVer.toNat * 2 ^ 17 + s.fsr.ftt.toNat * 2 ^ 14 + s.fsr.qne.toNat * 2 ^ 13 + s.fsr.fcc.toNat * 2 ^ 10 +
      s.fsr.aexc.toNat * 2 ^ 5 + s.fsr.cexc.toNat
    (dataAllowed s ea 4 .write →
      (completes (exec (.stf rd rs1 src2) s) fun t => storesBytes s t st ea 4 (s.freg rd).toNat ∧ storeFrame s t) ∧
      (completes (exec (.stfsr rd rs1 src2) s) fun t => storesBytes s t st ea 4 fsr ∧ storeFrame s t)) ∧
    (rd.toNat % 2 = 0 → dataAllowed s ea 8 .write → completes (exec (.stdf rd rs1 src2) s) fun t =>
      storesBytes s t st ea 8 ((s.freg rd).toNat * 2 ^ 32 + (s.freg (rd + 1)).toNat) ∧ storeFrame s t)

/-- STDFQ stores the front of the queue and in exception mode advances it, back to execute mode when it is empty
(R267, R58; derived). Inside the window of a WRPSR the registers and flags read are open values, the model's
choice (log 9); the doubleword of an empty queue is open (U23, log 29); the form of memory is the model's (log
3). -/
def Obligations.StoreFpQueue : Prop :=
  (∀ (s : State) (rd rs1 : RegNum) (src2 : Operand2) (e : QueueEntry) (rest : List QueueEntry), s.supervisor = true →
    s.efView = true → s.platform.fpuPresent = true → s.fpuMode ≠ .exceptionPending → Memory.wf s.mem = true →
    s.fq = e :: rest →
    let ea := s.reg rs1 + s.operand2 src2
    dataAllowed s ea 8 .write → completes (exec (.stdfq rd rs1 src2) s) fun t =>
      storesBytes s t s.dataStorage ea 8 (e.addr.toNat * 2 ^ 32 + e.instr.toNat) ∧ keepsRegs s t ∧ t.psr = s.psr ∧
      keepsControl s t ∧ t.cp = s.cp ∧ t.f = s.f ∧ keepsOutside s t ∧ advanced s t ∧
      (s.fpuMode = .execute → t.fq = s.fq ∧ t.fpuMode = .execute ∧ t.fsr = s.fsr) ∧
      (s.fpuMode = .exception → t.fq = rest ∧
        (rest = [] → t.fsr = { s.fsr with qne := false } ∧ t.fpuMode = .execute) ∧
        (rest ≠ [] → t.fsr = s.fsr ∧ t.fpuMode = .exception))) ∧
  (∀ (s : State) (rd rs1 : RegNum) (src2 : Operand2), s.supervisor = true → s.efView = true → s.platform.fpuPresent = true →
    s.fpuMode ≠ .exceptionPending → Memory.wf s.mem = true → s.fq = [] →
    let ea := s.reg rs1 + s.operand2 src2
    dataAllowed s ea 8 .write → ∃ v : Doubleword, completes (exec (.stdfq rd rs1 src2) s) fun t =>
      storesBytes s t s.dataStorage ea 8 v.toNat ∧ keepsRegs s t ∧ t.psr = s.psr ∧ keepsControl s t ∧ t.cp = s.cp ∧
      t.f = s.f ∧ keepsOutside s t ∧ advanced s t ∧ t.fq = [] ∧ t.fpuMode = .execute ∧
      (s.fpuMode = .execute → t.fsr = s.fsr) ∧ (s.fpuMode = .exception → t.fsr = { s.fsr with qne := false }))

/-- Rounding gives the number of the format that the direction RD asks for, infinity or the largest number on
overflow, and its exceptions (R431, R435, R436; derived). The arithmetic is that of ANSI/IEEE 754-1985, supplied
by the model (log 39); tininess is open (log 24). -/
def Obligations.RoundingIsCorrect : Prop :=
  ∀ (fmt : Format) (rd : BitVec 2) (ufm neg : Bool) (mant : Nat) (exp : Int), fmt = singleFormat ∨ fmt = doubleFormat →
    mant ≠ 0 → fmt.rounds rd ufm neg ((mant : ℝ) * (2 : ℝ) ^ exp) (fmt.round rd ufm neg mant exp)

/-- Bits stand for their numbers, and sum, difference, product, quotient, root and conversion are the exact real
results rounded once (R431, R436, R443, R444, R446, R447, R449, R450, R452, R453, R455, R456, R458, R459, R464,
R466; derived). The arithmetic is that of ANSI/IEEE 754-1985, supplied by the model (log 39). -/
def Obligations.ExactArithmetic : Prop :=
  ∀ fmt : Format, fmt = singleFormat ∨ fmt = doubleFormat →
    (∀ bits : Nat, bits < 2 ^ (fmt.expBits + fmt.fracBits + 1) →
      let m := bits % 2 ^ (fmt.expBits + fmt.fracBits)
      let neg : Bool := decide (2 ^ (fmt.expBits + fmt.fracBits) ≤ bits)
      (m < fmt.infinityBits → ∃ mant exp, fmt.unpack bits = .finite neg mant exp ∧ (mant : ℚ) * (2 : ℚ) ^ exp = fmt.magnitude m) ∧
      (m = fmt.infinityBits → fmt.unpack bits = .infinity neg) ∧
      (fmt.infinityBits < m → fmt.unpack bits = .nan (decide (m < fmt.infinityBits + 2 ^ (fmt.fracBits - 1))))) ∧
    (∀ (rd : BitVec 2) (ufm : Bool) (nan : Nat) (n1 n2 : Bool) (m1 m2 : Nat) (e1 e2 : Int),
      let gives (negZero : Bool) (v : ℝ) (x : Exact) : Prop := fmt.gives rd ufm negZero v (fmt.finish rd ufm nan x)
      let x := Number.finite n1 m1 e1
      let y := Number.finite n2 m2 e2
      let p : ℝ := (if n1 then -1 else 1) * ((m1 : ℝ) * (2 : ℝ) ^ e1)
      let q : ℝ := (if n2 then -1 else 1) * ((m2 : ℝ) * (2 : ℝ) ^ e2)
      gives (if n1 = n2 then n1 else decide (rd = 3)) (p + q) (exactAdd rd x y) ∧
      gives (if n1 ≠ n2 then n1 else decide (rd = 3)) (p - q) (exactSub rd x y) ∧
      gives (n1 ^^ n2) (p * q) (exactMul x y) ∧
      (m2 ≠ 0 → gives (n1 ^^ n2) (p / q) (exactDiv fmt x y)) ∧
      (n1 = false ∨ m1 = 0 → gives n1 (Real.sqrt p) (exactSqrt fmt x)) ∧
      gives n1 p (exactOf x) ∧ ∀ v : Int, gives false (v : ℝ) (exactOfInt v))

/-- What the operations give on NaNs, infinities and divisions by zero (R435, R437, R443, R446, R449, R452, R455,
R464; derived). The arithmetic is that of ANSI/IEEE 754-1985, supplied by the model (log 39); the NaN bits are
open (log 22). -/
def Obligations.SpecialOperands : Prop :=
  (∀ (fmt : Format) (rd : BitVec 2) (ufm : Bool) (nan : Nat),
    let result (x : Exact) : Rounded := fmt.finish rd ufm nan x
    let invalid : Rounded := ⟨nan, 0x10, true⟩
    let nanOf (signaling : Bool) : Rounded := ⟨nan, if signaling then 0x10 else 0, true⟩
    let infinity (neg : Bool) (flags : BitVec 5) : Rounded := ⟨fmt.signBit neg + fmt.infinityBits, flags, false⟩
    (∀ x y : Number, (∃ q, x = .nan q) ∨ (∃ q, y = .nan q) →
      let r := nanOf (decide (x = .nan true ∨ y = .nan true))
      result (exactAdd rd x y) = r ∧ result (exactSub rd x y) = r ∧ result (exactMul x y) = r ∧ result (exactDiv fmt x y) = r) ∧
    (∀ q, result (exactSqrt fmt (.nan q)) = nanOf q ∧ result (exactOf (.nan q)) = nanOf q) ∧
    (∀ (n k : Bool) (m : Nat) (e z : Int),
      let x := Number.finite k m e
      result (exactAdd rd (.infinity n) x) = infinity n 0 ∧ result (exactAdd rd x (.infinity n)) = infinity n 0 ∧
      result (exactSub rd (.infinity n) x) = infinity n 0 ∧ result (exactSub rd x (.infinity n)) = infinity (!n) 0 ∧
      result (exactAdd rd (.infinity n) (.infinity k)) = (if n = k then infinity n 0 else invalid) ∧
      result (exactSub rd (.infinity n) (.infinity k)) = (if n = k then invalid else infinity n 0) ∧
      result (exactMul (.infinity n) (.infinity k)) = infinity (n ^^ k) 0 ∧
      result (exactMul (.infinity n) x) = (if m = 0 then invalid else infinity (n ^^ k) 0) ∧
      result (exactMul x (.infinity n)) = (if m = 0 then invalid else infinity (k ^^ n) 0) ∧
      result (exactDiv fmt (.infinity n) (.infinity k)) = invalid ∧
      result (exactDiv fmt (.infinity n) x) = infinity (n ^^ k) 0 ∧
      result (exactDiv fmt x (.infinity n)) = ⟨fmt.signBit (k ^^ n), 0, false⟩ ∧
      result (exactDiv fmt x (.finite n 0 z)) = (if m = 0 then invalid else infinity (k ^^ n) 0x02) ∧
      result (exactSqrt fmt (.infinity n)) = (if n then invalid else infinity false 0) ∧
      (m ≠ 0 → result (exactSqrt fmt (.finite true m e)) = invalid) ∧ result (exactOf (.infinity n)) = infinity n 0)) ∧
  (∀ w : Word, numberS (w ||| 0x7FC00000#32) = .nan false) ∧
  (∀ d : Doubleword, numberD (d ||| 0x7FF8000000000000#64) = .nan false)

/-- Floating-point instructions trap fp_disabled, coprocessor instructions cp_disabled, where the unit is disabled
or absent (R260, R270, R370, R375, R432, R480; derived). FPops trap before their register test, the model's
choice (log 33); the coprocessor's state after a trap is open (U9, log 32); inside the window of a WRPSR the
registers and flags read are open values, the model's choice (log 9), and trap or error mode is a draw (log 12). -/
def Obligations.DisabledUnitsTrap : Prop :=
  ∀ (i : Instr) (s : State), s.prev ≠ .condBranch →
    s.supervisor = true ∨ (∀ rd rs1 src2, i ≠ .stdfq rd rs1 src2 ∧ i ≠ .stdcq rd rs1 src2) →
    (isFloatingPoint i = true → s.efView = false ∨ s.platform.fpuPresent = false →
      completes (exec i s) (trapsTo s 0x04)) ∧
    (isCoprocessor i = true → s.platform.cpPresent = false → completes (exec i s) (trapsTo s 0x24)) ∧
    (isCoprocessor i = true → s.ecView = false →
      (∀ rd rs1 src2, i ≠ .ldc rd rs1 src2 ∧ i ≠ .lddc rd rs1 src2 ∧ i ≠ .ldcsr rd rs1 src2) →
      completes (exec i s) (trapsTo s 0x24)) ∧
    (∀ rd rs1 src2, i ∈ [Instr.ldc rd rs1 src2, .lddc rd rs1 src2, .ldcsr rd rs1 src2] → s.ecView = false →
      s.platform.cpPresent = true →
      completes (exec i s)
        (trapsTo (if s.trapsEnabled then { s with cp := Config.cpAfterLoadTrap s.draws s.cp } else s) 0x24))

/-- CPop1, CPop2 and the coprocessor loads change the coprocessor and nothing else (R480, R481, R482, R270, R271,
R272, R273; derived). Inside the window of a WRPSR the registers and flags read are open values, the model's
choice (log 9); the coprocessor is open functions, and how its exception is acknowledged and that a load signals
none is the model's choice (log 32). -/
def Obligations.CoprocessorOperationsAndLoads : Prop :=
  (∀ (s : State) (opc : BitVec 9) (rd rs1 rs2 : RegNum), s.ecView = true → s.platform.cpPresent = true →
    let effect (second : Bool) (t : State) : Prop :=
      t.cp = Config.cpopSem second opc rd rs1 rs2 s.pc s.cp ∧ keepsMemory s t ∧ keepsRegs s t ∧ t.psr = s.psr ∧ keepsControl s t ∧ keepsFpu s t ∧ keepsOutside s t ∧ advanced s t
    (s.cp.exceptionPending = false → completes (exec (.cpop1 opc rd rs1 rs2) s) (effect false) ∧
      completes (exec (.cpop2 opc rd rs1 rs2) s) (effect true)) ∧
    (s.cp.exceptionPending = true → s.trapsEnabled = true →
      completes (exec (.cpop1 opc rd rs1 rs2) s) (trapsTo { s with cp := Config.cpAcknowledge s.cp } 0x28) ∧
      completes (exec (.cpop2 opc rd rs1 rs2) s) (trapsTo { s with cp := Config.cpAcknowledge s.cp } 0x28))) ∧
  (∀ (s : State) (rd rs1 : RegNum) (src2 : Operand2), s.ecView = true → s.platform.cpPresent = true →
    s.cp.exceptionPending = false →
    let ea := s.reg rs1 + s.operand2 src2
    let st := s.dataStorage
    let word (a : Word) : Word := BitVec.ofNat 32 (bytesAt s.mem st a 4)
    let frame (t : State) : Prop := keepsMemory s t ∧ keepsRegs s t ∧ t.psr = s.psr ∧ keepsControl s t ∧ keepsFpu s t ∧ keepsOutside s t ∧ advanced s t
    (dataAllowed s ea 4 .read → (completes (exec (.ldc rd rs1 src2) s) fun t =>
        (∀ k, t.creg k = if k = rd then word ea else s.creg k) ∧ t.cp = { s.cp with c := t.cp.c } ∧ frame t) ∧
      (completes (exec (.ldcsr rd rs1 src2) s) fun t =>
        (∀ k, t.cp.csr.getLsbD k = if Config.csrWritable.getLsbD k then (word ea).getLsbD k else s.cp.csr.getLsbD k) ∧
        t.cp = { s.cp with csr := t.cp.csr, ccc := Config.cccAfterLdcsr s.cp (word ea) } ∧ frame t)) ∧
    (rd.toNat % 2 = 0 → dataAllowed s ea 8 .read → completes (exec (.lddc rd rs1 src2) s) fun t =>
      (∀ k, t.creg k = if k = rd then word ea else if k = rd + 1 then word (ea + 4) else s.creg k) ∧
      t.cp = { s.cp with c := t.cp.c } ∧ frame t))

/-- STC, STDC, STCSR and STDCQ store the coprocessor's registers and queue (R270, R274, R275, R276, R277; derived).
Inside the window of a WRPSR the registers and flags read are open values, the model's choice (log 9); the
coprocessor is open functions, and that a store signals no exception is the model's choice (log 32); the form of
memory is the model's (log 3). -/
def Obligations.CoprocessorStores : Prop :=
  ∀ (s : State) (rd rs1 : RegNum) (src2 : Operand2), s.ecView = true → s.platform.cpPresent = true →
    s.cp.exceptionPending = false → Memory.wf s.mem = true →
    let ea := s.reg rs1 + s.operand2 src2
    let st := s.dataStorage
    (dataAllowed s ea 4 .write →
      (completes (exec (.stc rd rs1 src2) s) fun t => storesBytes s t st ea 4 (s.creg rd).toNat ∧ storeFrame s t) ∧
      (completes (exec (.stcsr rd rs1 src2) s) fun t => storesBytes s t st ea 4 s.cp.csr.toNat ∧ storeFrame s t)) ∧
    (dataAllowed s ea 8 .write →
      (rd.toNat % 2 = 0 → completes (exec (.stdc rd rs1 src2) s) fun t =>
        storesBytes s t st ea 8 ((s.creg rd).toNat * 2 ^ 32 + (s.creg (rd + 1)).toNat) ∧ storeFrame s t) ∧
      (∀ e rest, s.supervisor = true → s.cp.cq = e :: rest → completes (exec (.stdcq rd rs1 src2) s) fun t =>
        storesBytes s t st ea 8 (e.addr.toNat * 2 ^ 32 + e.instr.toNat) ∧
        t.cp = (if Config.stdcqAdvances s.cp then { s.cp with cq := rest } else s.cp) ∧ keepsRegs s t ∧ t.psr = s.psr ∧ keepsControl s t ∧ keepsFpu s t ∧ keepsOutside s t ∧ advanced s t) ∧
      (s.supervisor = true → s.cp.cq = [] → ∃ v : Doubleword, completes (exec (.stdcq rd rs1 src2) s) fun t =>
        storesBytes s t st ea 8 v.toNat ∧ storeFrame s t))

/-- An interrupt is taken at a boundary exactly when ET = 1 and IRL is 15 or above PIL, with tt = 0x10 + IRL (R540,
R520; derived). The form of the inputs is the model's (log 7). -/
def Obligations.InterruptTaken : Prop :=
  ∀ (s : State) (irl : BitVec 4) (later : List BoundaryInput), s.psrWrite.left = 0 → s.errorMode = false →
    s.inputs = ⟨false, irl⟩ :: later →
    (s.psr.et = true → irl = 15 ∨ s.psr.pil.toNat < irl.toNat →
      completes (step s) (trapsTo { s with inputs := later } (BitVec.ofNat 8 (0x10 + irl.toNat)))) ∧
    (s.psr.et = false ∨ irl.toNat ≤ s.psr.pil.toNat ∧ irl ≠ 15 →
      step s = step { s with inputs := ⟨false, 0⟩ :: later })

/-- The reset input sets PC, nPC, S, ET, error mode and the FPU, and leaves memory, CWP and TBR.tt (R570, R571, R70;
derived). Which registers keep their value is read from R570 and R571 (log 21). -/
def Obligations.ExternalReset : Prop :=
  ∀ s : State, s.input.reset = true → completes (step s) fun t =>
    t.pc = 0#32 ∧ t.npc = 4#32 ∧ t.psr.s = true ∧ t.psr.et = false ∧ t.errorMode = false ∧ t.fpuMode = .execute ∧ t.fq = [] ∧
    t.fsr.ftt = 0 ∧ t.fsr.qne = false ∧ t.psrWrite.left = 0 ∧ t.wimWrite.left = 0 ∧ t.tbrWrite.left = 0 ∧
    t.yWrite.left = 0 ∧ ttOf t.tbr = ttOf s.tbr ∧ t.psr.cwp = s.psr.cwp ∧ t.wim.toNat < 256 ∧ t.tbr.toNat % 16 = 0 ∧
    (∀ w, t.regIn w 0 = 0#32) ∧ keepsMemory s t ∧ t.platform = s.platform ∧ t.inputs = s.inputs.tail

/-- In error mode nothing is executed and nothing changes until reset is applied (R525; derived). A step in error
mode as a next state is the model's form (log 20). -/
def Obligations.ErrorModeHalts : Prop :=
  ∀ (k : Nat) (s t : State), s.errorMode = true → (∀ x ∈ s.inputs, x.reset = false) → runsTo k s t →
    t = { s with inputs := s.inputs.drop k }

/-- No instruction executed in user mode changes WIM, TBA, EC, EF or PIL, sets ET, or raises privilege except by a
trap (R550, R551, R552, R46; derived). -/
def Obligations.UserModeKeepsControl : Prop :=
  ∀ (i : Instr) (s t : State), s.supervisor = false → exec i s = .next t →
    t.wim = s.wim ∧ tbaOf t.tbr = tbaOf s.tbr ∧ t.psr.ec = s.psr.ec ∧ t.psr.ef = s.psr.ef ∧ t.psr.pil = s.psr.pil ∧
    (t.psr.et = s.psr.et ∨ t.psr.et = false) ∧ (t.psr.s = s.psr.s ∨ trapped s t ∧ t.psr.s = true ∧ t.psr.et = false) ∧
    t.platform = s.platform

/-- Only stores, LDSTUB and SWAP write memory, and no trap does (R102, R103, R107, R521; derived). -/
def Obligations.OnlyStoresWriteMemory : Prop :=
  ∀ (i : Instr) (s t : State), exec i s = .next t → t.mem ≠ s.mem → isStore i = true ∧ advanced s t

/-- Only the cc instructions and WRPSR write the integer condition codes (R46, R205; derived). -/
def Obligations.OnlyCcWritesFlags : Prop :=
  ∀ (i : Instr) (s t : State), writesIcc i = false → exec i s = .next t → t.psr.icc = s.psr.icc
end

