-- ==== Sys2Proof/Laws/Decode.lean ====
section
/-! SUPPORT. The fields of the words the encoder builds, and a word put together from its fields. -/

namespace Sys2Proof

/-- The number of two bit strings side by side. -/
theorem append_number {m n : Nat} (x : BitVec m) (y : BitVec n) : (x ++ y).toNat = x.toNat * 2 ^ n + y.toNat := by
  rw [BitVec.toNat_append, ← Nat.shiftLeft_add_eq_or_of_lt y.isLt, Nat.shiftLeft_eq]

/-- The number of a field. -/
theorem field_number {n : Nat} (w : BitVec n) (lo len : Nat) : (w.extractLsb' lo len).toNat = w.toNat / 2 ^ lo % 2 ^ len := by
  rw [BitVec.extractLsb'_toNat, Nat.shiftRight_eq_div_pow]

/-! ## Format 3 -/

section Format3

variable (op : BitVec 2) (rd : BitVec 5) (op3 : BitVec 6) (rs1 : RegNum) (low : BitVec 14)

theorem format3_number : (format3 op rd op3 rs1 low).toNat =
    op.toNat * 2 ^ 30 + rd.toNat * 2 ^ 25 + op3.toNat * 2 ^ 19 + rs1.toNat * 2 ^ 14 + low.toNat := by
  simp only [format3, append_number]
  ring

@[simp] theorem opOf_format3 : opOf (format3 op rd op3 rs1 low) = op := by
  apply BitVec.eq_of_toNat_eq
  rw [opOf, field_number, format3_number]
  omega

@[simp] theorem rdOf_format3 : rdOf (format3 op rd op3 rs1 low) = rd := by
  apply BitVec.eq_of_toNat_eq
  rw [rdOf, field_number, format3_number]
  omega

@[simp] theorem op3Of_format3 : op3Of (format3 op rd op3 rs1 low) = op3 := by
  apply BitVec.eq_of_toNat_eq
  rw [op3Of, field_number, format3_number]
  omega

@[simp] theorem rs1Of_format3 : rs1Of (format3 op rd op3 rs1 low) = rs1 := by
  apply BitVec.eq_of_toNat_eq
  rw [rs1Of, field_number, format3_number]
  omega

@[simp] theorem low14Of_format3 : low14Of (format3 op rd op3 rs1 low) = low := by
  apply BitVec.eq_of_toNat_eq
  rw [low14Of, field_number, format3_number]
  omega

@[simp] theorem opfOf_format3 : opfOf (format3 op rd op3 rs1 low) = low.extractLsb' 5 9 := by
  apply BitVec.eq_of_toNat_eq
  rw [opfOf, field_number, field_number, format3_number]
  omega

@[simp] theorem rs2Of_format3 : rs2Of (format3 op rd op3 rs1 low) = low.extractLsb' 0 5 := by
  apply BitVec.eq_of_toNat_eq
  rw [rs2Of, field_number, field_number, format3_number]
  omega

@[simp] theorem condOf_format3 : condOf (format3 op rd op3 rs1 low) = rd.extractLsb' 0 4 := by
  apply BitVec.eq_of_toNat_eq
  rw [condOf, field_number, field_number, format3_number]
  omega

@[simp] theorem bit29Of_format3 : bit29Of (format3 op rd op3 rs1 low) = rd.getLsbD 4 := by
  have := rd.isLt
  have h : (format3 op rd op3 rs1 low).toNat / 2 ^ 29 % 2 = rd.toNat / 2 ^ 4 % 2 := by rw [format3_number]; omega
  rw [bit29Of, BitVec.getLsbD, BitVec.getLsbD, Nat.testBit_eq_decide_div_mod_eq, Nat.testBit_eq_decide_div_mod_eq, h]

/-- A word is its Format 3 fields. -/
theorem format3_fields (w : Word) : format3 (opOf w) (rdOf w) (op3Of w) (rs1Of w) (low14Of w) = w := by
  apply BitVec.eq_of_toNat_eq
  rw [format3_number, opOf, rdOf, op3Of, rs1Of, low14Of]
  simp only [field_number]
  have := w.isLt
  omega

end Format3

/-! ## Format 2 -/

section Format2

variable (hi : BitVec 5) (op2 : BitVec 3) (imm : BitVec 22)

theorem format2_number : (format2 hi op2 imm).toNat = hi.toNat * 2 ^ 25 + op2.toNat * 2 ^ 22 + imm.toNat := by
  simp only [format2, append_number, BitVec.toNat_ofNat]
  ring

@[simp] theorem opOf_format2 : opOf (format2 hi op2 imm) = 0#2 := by
  apply BitVec.eq_of_toNat_eq
  rw [opOf, field_number, format2_number]
  simp
  omega

@[simp] theorem rdOf_format2 : rdOf (format2 hi op2 imm) = hi := by
  apply BitVec.eq_of_toNat_eq
  rw [rdOf, field_number, format2_number]
  omega

@[simp] theorem op2Of_format2 : op2Of (format2 hi op2 imm) = op2 := by
  apply BitVec.eq_of_toNat_eq
  rw [op2Of, field_number, format2_number]
  omega

@[simp] theorem imm22Of_format2 : imm22Of (format2 hi op2 imm) = imm := by
  apply BitVec.eq_of_toNat_eq
  rw [imm22Of, field_number, format2_number]
  omega

@[simp] theorem condOf_format2 : condOf (format2 hi op2 imm) = hi.extractLsb' 0 4 := by
  apply BitVec.eq_of_toNat_eq
  rw [condOf, field_number, field_number, format2_number]
  omega

@[simp] theorem bit29Of_format2 : bit29Of (format2 hi op2 imm) = hi.getLsbD 4 := by
  have := hi.isLt
  have h : (format2 hi op2 imm).toNat / 2 ^ 29 % 2 = hi.toNat / 2 ^ 4 % 2 := by rw [format2_number]; omega
  rw [bit29Of, BitVec.getLsbD, BitVec.getLsbD, Nat.testBit_eq_decide_div_mod_eq, Nat.testBit_eq_decide_div_mod_eq, h]

/-- A word with op = 00 is its Format 2 fields. -/
theorem format2_fields (w : Word) (h : opOf w = 0#2) : format2 (rdOf w) (op2Of w) (imm22Of w) = w := by
  have h0 := congrArg BitVec.toNat h
  apply BitVec.eq_of_toNat_eq
  rw [format2_number, rdOf, op2Of, imm22Of]
  rw [opOf, field_number] at h0
  simp only [field_number]
  have := w.isLt
  simp at h0
  omega

end Format2

/-! ## Parts -/

@[simp] theorem cond_of_bits (a : Bool) (cond : BitVec 4) : (BitVec.ofBool a ++ cond).extractLsb' 0 4 = cond := by
  apply BitVec.eq_of_toNat_eq
  rw [field_number, append_number]
  omega

@[simp] theorem annul_of_bits (a : Bool) (cond : BitVec 4) : (BitVec.ofBool a ++ cond).getLsbD 4 = a := by
  cases a <;> revert cond <;> decide

/-- The annul bit and cond are bits 29:25. -/
theorem bits29_25 (w : Word) : BitVec.ofBool (bit29Of w) ++ condOf w = rdOf w := by
  apply BitVec.eq_of_toNat_eq
  rw [append_number, BitVec.toNat_ofBool, rdOf, condOf, field_number, field_number, bit29Of, BitVec.getLsbD,
    Nat.toNat_testBit]
  omega

@[simp] theorem operand2Of_bits (src2 : Operand2) : operand2Of (operand2Bits src2) = src2 := by
  cases src2 with
  | reg asi rs2 =>
    have h : (operand2Bits (.reg asi rs2)).toNat = asi.toNat * 2 ^ 5 + rs2.toNat := by
      simp only [operand2Bits, append_number, BitVec.toNat_ofNat]
      omega
    have h13 : (operand2Bits (.reg asi rs2)).getLsbD 13 = false := by
      rw [BitVec.getLsbD, Nat.testBit_eq_decide_div_mod_eq, h, decide_eq_false_iff_not]
      have := asi.isLt
      have := rs2.isLt
      omega
    rw [operand2Of, h13]
    simp only [Bool.false_eq_true, if_false, Operand2.reg.injEq]
    constructor <;> apply BitVec.eq_of_toNat_eq <;> rw [field_number, h] <;> omega
  | imm simm13 =>
    have h : (operand2Bits (.imm simm13)).toNat = 2 ^ 13 + simm13.toNat := by
      simp only [operand2Bits, append_number, BitVec.toNat_ofNat]
      omega
    have h13 : (operand2Bits (.imm simm13)).getLsbD 13 = true := by
      rw [BitVec.getLsbD, Nat.testBit_eq_decide_div_mod_eq, h, decide_eq_true_eq]
      have := simm13.isLt
      omega
    rw [operand2Of, h13]
    simp only [if_true, Operand2.imm.injEq]
    apply BitVec.eq_of_toNat_eq
    rw [field_number, h]
    omega

theorem operand2Bits_of (low : BitVec 14) : operand2Bits (operand2Of low) = low := by
  have hl := low.isLt
  have ht := Nat.testBit_eq_decide_div_mod_eq (x := low.toNat) (i := 13)
  unfold operand2Of
  split <;> rename_i h
  · rw [BitVec.getLsbD, ht, decide_eq_true_eq] at h
    apply BitVec.eq_of_toNat_eq
    simp only [operand2Bits, append_number, field_number, BitVec.toNat_ofNat]
    omega
  · rw [BitVec.getLsbD, ht, decide_eq_true_eq] at h
    apply BitVec.eq_of_toNat_eq
    simp only [operand2Bits, append_number, field_number, BitVec.toNat_ofNat]
    omega

@[simp] theorem opf_of_bits (opf : BitVec 9) (rs2 : RegNum) : (opf ++ rs2).extractLsb' 5 9 = opf := by
  apply BitVec.eq_of_toNat_eq
  rw [field_number, append_number]
  omega

@[simp] theorem rs2_of_bits (opf : BitVec 9) (rs2 : RegNum) : (opf ++ rs2).extractLsb' 0 5 = rs2 := by
  apply BitVec.eq_of_toNat_eq
  rw [field_number, append_number]
  omega

theorem opf_rs2 (w : Word) : opfOf w ++ rs2Of w = low14Of w := by
  apply BitVec.eq_of_toNat_eq
  rw [append_number, opfOf, rs2Of, low14Of]
  simp only [field_number]
  omega

end Sys2Proof
end

