-- ==== Sys2Proof/Laws/State.lean ====
section
/-! SUPPORT. One lemma per field per update of the state, so that no later proof unfolds a record update. -/

namespace Sys2Proof.Machine

open Sys2Proof

variable (s : State)

/-! `State.setRegIn` changes g, w only. -/

@[simp] theorem setRegIn_pc (c : BitVec 5) (r : RegNum) (v : Word) : (s.setRegIn c r v).pc = s.pc := by unfold State.setRegIn; split <;> [rfl; (split <;> rfl)]
@[simp] theorem setRegIn_npc (c : BitVec 5) (r : RegNum) (v : Word) : (s.setRegIn c r v).npc = s.npc := by unfold State.setRegIn; split <;> [rfl; (split <;> rfl)]
@[simp] theorem setRegIn_psr (c : BitVec 5) (r : RegNum) (v : Word) : (s.setRegIn c r v).psr = s.psr := by unfold State.setRegIn; split <;> [rfl; (split <;> rfl)]
@[simp] theorem setRegIn_wim (c : BitVec 5) (r : RegNum) (v : Word) : (s.setRegIn c r v).wim = s.wim := by unfold State.setRegIn; split <;> [rfl; (split <;> rfl)]
@[simp] theorem setRegIn_tbr (c : BitVec 5) (r : RegNum) (v : Word) : (s.setRegIn c r v).tbr = s.tbr := by unfold State.setRegIn; split <;> [rfl; (split <;> rfl)]
@[simp] theorem setRegIn_y (c : BitVec 5) (r : RegNum) (v : Word) : (s.setRegIn c r v).y = s.y := by unfold State.setRegIn; split <;> [rfl; (split <;> rfl)]
@[simp] theorem setRegIn_f (c : BitVec 5) (r : RegNum) (v : Word) : (s.setRegIn c r v).f = s.f := by unfold State.setRegIn; split <;> [rfl; (split <;> rfl)]
@[simp] theorem setRegIn_fsr (c : BitVec 5) (r : RegNum) (v : Word) : (s.setRegIn c r v).fsr = s.fsr := by unfold State.setRegIn; split <;> [rfl; (split <;> rfl)]
@[simp] theorem setRegIn_fq (c : BitVec 5) (r : RegNum) (v : Word) : (s.setRegIn c r v).fq = s.fq := by unfold State.setRegIn; split <;> [rfl; (split <;> rfl)]
@[simp] theorem setRegIn_fpuMode (c : BitVec 5) (r : RegNum) (v : Word) : (s.setRegIn c r v).fpuMode = s.fpuMode := by unfold State.setRegIn; split <;> [rfl; (split <;> rfl)]
@[simp] theorem setRegIn_cp (c : BitVec 5) (r : RegNum) (v : Word) : (s.setRegIn c r v).cp = s.cp := by unfold State.setRegIn; split <;> [rfl; (split <;> rfl)]
@[simp] theorem setRegIn_mem (c : BitVec 5) (r : RegNum) (v : Word) : (s.setRegIn c r v).mem = s.mem := by unfold State.setRegIn; split <;> [rfl; (split <;> rfl)]
@[simp] theorem setRegIn_errorMode (c : BitVec 5) (r : RegNum) (v : Word) : (s.setRegIn c r v).errorMode = s.errorMode := by unfold State.setRegIn; split <;> [rfl; (split <;> rfl)]
@[simp] theorem setRegIn_psrWrite (c : BitVec 5) (r : RegNum) (v : Word) : (s.setRegIn c r v).psrWrite = s.psrWrite := by unfold State.setRegIn; split <;> [rfl; (split <;> rfl)]
@[simp] theorem setRegIn_wimWrite (c : BitVec 5) (r : RegNum) (v : Word) : (s.setRegIn c r v).wimWrite = s.wimWrite := by unfold State.setRegIn; split <;> [rfl; (split <;> rfl)]
@[simp] theorem setRegIn_tbrWrite (c : BitVec 5) (r : RegNum) (v : Word) : (s.setRegIn c r v).tbrWrite = s.tbrWrite := by unfold State.setRegIn; split <;> [rfl; (split <;> rfl)]
@[simp] theorem setRegIn_yWrite (c : BitVec 5) (r : RegNum) (v : Word) : (s.setRegIn c r v).yWrite = s.yWrite := by unfold State.setRegIn; split <;> [rfl; (split <;> rfl)]
@[simp] theorem setRegIn_prev (c : BitVec 5) (r : RegNum) (v : Word) : (s.setRegIn c r v).prev = s.prev := by unfold State.setRegIn; split <;> [rfl; (split <;> rfl)]
@[simp] theorem setRegIn_pausedDelays (c : BitVec 5) (r : RegNum) (v : Word) : (s.setRegIn c r v).pausedDelays = s.pausedDelays := by unfold State.setRegIn; split <;> [rfl; (split <;> rfl)]
@[simp] theorem setRegIn_stale (c : BitVec 5) (r : RegNum) (v : Word) : (s.setRegIn c r v).stale = s.stale := by unfold State.setRegIn; split <;> [rfl; (split <;> rfl)]
@[simp] theorem setRegIn_platform (c : BitVec 5) (r : RegNum) (v : Word) : (s.setRegIn c r v).platform = s.platform := by unfold State.setRegIn; split <;> [rfl; (split <;> rfl)]
@[simp] theorem setRegIn_inputs (c : BitVec 5) (r : RegNum) (v : Word) : (s.setRegIn c r v).inputs = s.inputs := by unfold State.setRegIn; split <;> [rfl; (split <;> rfl)]
@[simp] theorem setRegIn_draws (c : BitVec 5) (r : RegNum) (v : Word) : (s.setRegIn c r v).draws = s.draws := by unfold State.setRegIn; split <;> [rfl; (split <;> rfl)]

/-! `State.setReg` changes g, w only. -/

@[simp] theorem setReg_pc (r : RegNum) (v : Word) : (s.setReg r v).pc = s.pc := setRegIn_pc s s.cwpView r v
@[simp] theorem setReg_npc (r : RegNum) (v : Word) : (s.setReg r v).npc = s.npc := setRegIn_npc s s.cwpView r v
@[simp] theorem setReg_psr (r : RegNum) (v : Word) : (s.setReg r v).psr = s.psr := setRegIn_psr s s.cwpView r v
@[simp] theorem setReg_wim (r : RegNum) (v : Word) : (s.setReg r v).wim = s.wim := setRegIn_wim s s.cwpView r v
@[simp] theorem setReg_tbr (r : RegNum) (v : Word) : (s.setReg r v).tbr = s.tbr := setRegIn_tbr s s.cwpView r v
@[simp] theorem setReg_y (r : RegNum) (v : Word) : (s.setReg r v).y = s.y := setRegIn_y s s.cwpView r v
@[simp] theorem setReg_f (r : RegNum) (v : Word) : (s.setReg r v).f = s.f := setRegIn_f s s.cwpView r v
@[simp] theorem setReg_fsr (r : RegNum) (v : Word) : (s.setReg r v).fsr = s.fsr := setRegIn_fsr s s.cwpView r v
@[simp] theorem setReg_fq (r : RegNum) (v : Word) : (s.setReg r v).fq = s.fq := setRegIn_fq s s.cwpView r v
@[simp] theorem setReg_fpuMode (r : RegNum) (v : Word) : (s.setReg r v).fpuMode = s.fpuMode := setRegIn_fpuMode s s.cwpView r v
@[simp] theorem setReg_cp (r : RegNum) (v : Word) : (s.setReg r v).cp = s.cp := setRegIn_cp s s.cwpView r v
@[simp] theorem setReg_mem (r : RegNum) (v : Word) : (s.setReg r v).mem = s.mem := setRegIn_mem s s.cwpView r v
@[simp] theorem setReg_errorMode (r : RegNum) (v : Word) : (s.setReg r v).errorMode = s.errorMode := setRegIn_errorMode s s.cwpView r v
@[simp] theorem setReg_psrWrite (r : RegNum) (v : Word) : (s.setReg r v).psrWrite = s.psrWrite := setRegIn_psrWrite s s.cwpView r v
@[simp] theorem setReg_wimWrite (r : RegNum) (v : Word) : (s.setReg r v).wimWrite = s.wimWrite := setRegIn_wimWrite s s.cwpView r v
@[simp] theorem setReg_tbrWrite (r : RegNum) (v : Word) : (s.setReg r v).tbrWrite = s.tbrWrite := setRegIn_tbrWrite s s.cwpView r v
@[simp] theorem setReg_yWrite (r : RegNum) (v : Word) : (s.setReg r v).yWrite = s.yWrite := setRegIn_yWrite s s.cwpView r v
@[simp] theorem setReg_prev (r : RegNum) (v : Word) : (s.setReg r v).prev = s.prev := setRegIn_prev s s.cwpView r v
@[simp] theorem setReg_pausedDelays (r : RegNum) (v : Word) : (s.setReg r v).pausedDelays = s.pausedDelays := setRegIn_pausedDelays s s.cwpView r v
@[simp] theorem setReg_stale (r : RegNum) (v : Word) : (s.setReg r v).stale = s.stale := setRegIn_stale s s.cwpView r v
@[simp] theorem setReg_platform (r : RegNum) (v : Word) : (s.setReg r v).platform = s.platform := setRegIn_platform s s.cwpView r v
@[simp] theorem setReg_inputs (r : RegNum) (v : Word) : (s.setReg r v).inputs = s.inputs := setRegIn_inputs s s.cwpView r v
@[simp] theorem setReg_draws (r : RegNum) (v : Word) : (s.setReg r v).draws = s.draws := setRegIn_draws s s.cwpView r v

/-! `State.setCwp` changes psr only. -/

@[simp] theorem setCwp_pc (c : BitVec 5) : (s.setCwp c).pc = s.pc := rfl
@[simp] theorem setCwp_npc (c : BitVec 5) : (s.setCwp c).npc = s.npc := rfl
@[simp] theorem setCwp_g (c : BitVec 5) : (s.setCwp c).g = s.g := rfl
@[simp] theorem setCwp_w (c : BitVec 5) : (s.setCwp c).w = s.w := rfl
@[simp] theorem setCwp_wim (c : BitVec 5) : (s.setCwp c).wim = s.wim := rfl
@[simp] theorem setCwp_tbr (c : BitVec 5) : (s.setCwp c).tbr = s.tbr := rfl
@[simp] theorem setCwp_y (c : BitVec 5) : (s.setCwp c).y = s.y := rfl
@[simp] theorem setCwp_f (c : BitVec 5) : (s.setCwp c).f = s.f := rfl
@[simp] theorem setCwp_fsr (c : BitVec 5) : (s.setCwp c).fsr = s.fsr := rfl
@[simp] theorem setCwp_fq (c : BitVec 5) : (s.setCwp c).fq = s.fq := rfl
@[simp] theorem setCwp_fpuMode (c : BitVec 5) : (s.setCwp c).fpuMode = s.fpuMode := rfl
@[simp] theorem setCwp_cp (c : BitVec 5) : (s.setCwp c).cp = s.cp := rfl
@[simp] theorem setCwp_mem (c : BitVec 5) : (s.setCwp c).mem = s.mem := rfl
@[simp] theorem setCwp_errorMode (c : BitVec 5) : (s.setCwp c).errorMode = s.errorMode := rfl
@[simp] theorem setCwp_psrWrite (c : BitVec 5) : (s.setCwp c).psrWrite = s.psrWrite := rfl
@[simp] theorem setCwp_wimWrite (c : BitVec 5) : (s.setCwp c).wimWrite = s.wimWrite := rfl
@[simp] theorem setCwp_tbrWrite (c : BitVec 5) : (s.setCwp c).tbrWrite = s.tbrWrite := rfl
@[simp] theorem setCwp_yWrite (c : BitVec 5) : (s.setCwp c).yWrite = s.yWrite := rfl
@[simp] theorem setCwp_prev (c : BitVec 5) : (s.setCwp c).prev = s.prev := rfl
@[simp] theorem setCwp_pausedDelays (c : BitVec 5) : (s.setCwp c).pausedDelays = s.pausedDelays := rfl
@[simp] theorem setCwp_stale (c : BitVec 5) : (s.setCwp c).stale = s.stale := rfl
@[simp] theorem setCwp_platform (c : BitVec 5) : (s.setCwp c).platform = s.platform := rfl
@[simp] theorem setCwp_inputs (c : BitVec 5) : (s.setCwp c).inputs = s.inputs := rfl
@[simp] theorem setCwp_draws (c : BitVec 5) : (s.setCwp c).draws = s.draws := rfl
@[simp] theorem setCwp_psr (c : BitVec 5) : (s.setCwp c).psr = { s.psr with cwp := c } := rfl

/-! `State.setIcc` changes psr only. -/

@[simp] theorem setIcc_pc (i : Icc) : (s.setIcc i).pc = s.pc := rfl
@[simp] theorem setIcc_npc (i : Icc) : (s.setIcc i).npc = s.npc := rfl
@[simp] theorem setIcc_g (i : Icc) : (s.setIcc i).g = s.g := rfl
@[simp] theorem setIcc_w (i : Icc) : (s.setIcc i).w = s.w := rfl
@[simp] theorem setIcc_wim (i : Icc) : (s.setIcc i).wim = s.wim := rfl
@[simp] theorem setIcc_tbr (i : Icc) : (s.setIcc i).tbr = s.tbr := rfl
@[simp] theorem setIcc_y (i : Icc) : (s.setIcc i).y = s.y := rfl
@[simp] theorem setIcc_f (i : Icc) : (s.setIcc i).f = s.f := rfl
@[simp] theorem setIcc_fsr (i : Icc) : (s.setIcc i).fsr = s.fsr := rfl
@[simp] theorem setIcc_fq (i : Icc) : (s.setIcc i).fq = s.fq := rfl
@[simp] theorem setIcc_fpuMode (i : Icc) : (s.setIcc i).fpuMode = s.fpuMode := rfl
@[simp] theorem setIcc_cp (i : Icc) : (s.setIcc i).cp = s.cp := rfl
@[simp] theorem setIcc_mem (i : Icc) : (s.setIcc i).mem = s.mem := rfl
@[simp] theorem setIcc_errorMode (i : Icc) : (s.setIcc i).errorMode = s.errorMode := rfl
@[simp] theorem setIcc_psrWrite (i : Icc) : (s.setIcc i).psrWrite = s.psrWrite := rfl
@[simp] theorem setIcc_wimWrite (i : Icc) : (s.setIcc i).wimWrite = s.wimWrite := rfl
@[simp] theorem setIcc_tbrWrite (i : Icc) : (s.setIcc i).tbrWrite = s.tbrWrite := rfl
@[simp] theorem setIcc_yWrite (i : Icc) : (s.setIcc i).yWrite = s.yWrite := rfl
@[simp] theorem setIcc_prev (i : Icc) : (s.setIcc i).prev = s.prev := rfl
@[simp] theorem setIcc_pausedDelays (i : Icc) : (s.setIcc i).pausedDelays = s.pausedDelays := rfl
@[simp] theorem setIcc_stale (i : Icc) : (s.setIcc i).stale = s.stale := rfl
@[simp] theorem setIcc_platform (i : Icc) : (s.setIcc i).platform = s.platform := rfl
@[simp] theorem setIcc_inputs (i : Icc) : (s.setIcc i).inputs = s.inputs := rfl
@[simp] theorem setIcc_draws (i : Icc) : (s.setIcc i).draws = s.draws := rfl
@[simp] theorem setIcc_psr (i : Icc) : (s.setIcc i).psr = { s.psr with icc := i } := rfl

/-! `State.setPair` changes g, w only. -/

@[simp] theorem setPair_pc (r : RegNum) (v : Doubleword) : (s.setPair r v).pc = s.pc := by simp [State.setPair]
@[simp] theorem setPair_npc (r : RegNum) (v : Doubleword) : (s.setPair r v).npc = s.npc := by simp [State.setPair]
@[simp] theorem setPair_psr (r : RegNum) (v : Doubleword) : (s.setPair r v).psr = s.psr := by simp [State.setPair]
@[simp] theorem setPair_wim (r : RegNum) (v : Doubleword) : (s.setPair r v).wim = s.wim := by simp [State.setPair]
@[simp] theorem setPair_tbr (r : RegNum) (v : Doubleword) : (s.setPair r v).tbr = s.tbr := by simp [State.setPair]
@[simp] theorem setPair_y (r : RegNum) (v : Doubleword) : (s.setPair r v).y = s.y := by simp [State.setPair]
@[simp] theorem setPair_f (r : RegNum) (v : Doubleword) : (s.setPair r v).f = s.f := by simp [State.setPair]
@[simp] theorem setPair_fsr (r : RegNum) (v : Doubleword) : (s.setPair r v).fsr = s.fsr := by simp [State.setPair]
@[simp] theorem setPair_fq (r : RegNum) (v : Doubleword) : (s.setPair r v).fq = s.fq := by simp [State.setPair]
@[simp] theorem setPair_fpuMode (r : RegNum) (v : Doubleword) : (s.setPair r v).fpuMode = s.fpuMode := by simp [State.setPair]
@[simp] theorem setPair_cp (r : RegNum) (v : Doubleword) : (s.setPair r v).cp = s.cp := by simp [State.setPair]
@[simp] theorem setPair_mem (r : RegNum) (v : Doubleword) : (s.setPair r v).mem = s.mem := by simp [State.setPair]
@[simp] theorem setPair_errorMode (r : RegNum) (v : Doubleword) : (s.setPair r v).errorMode = s.errorMode := by simp [State.setPair]
@[simp] theorem setPair_psrWrite (r : RegNum) (v : Doubleword) : (s.setPair r v).psrWrite = s.psrWrite := by simp [State.setPair]
@[simp] theorem setPair_wimWrite (r : RegNum) (v : Doubleword) : (s.setPair r v).wimWrite = s.wimWrite := by simp [State.setPair]
@[simp] theorem setPair_tbrWrite (r : RegNum) (v : Doubleword) : (s.setPair r v).tbrWrite = s.tbrWrite := by simp [State.setPair]
@[simp] theorem setPair_yWrite (r : RegNum) (v : Doubleword) : (s.setPair r v).yWrite = s.yWrite := by simp [State.setPair]
@[simp] theorem setPair_prev (r : RegNum) (v : Doubleword) : (s.setPair r v).prev = s.prev := by simp [State.setPair]
@[simp] theorem setPair_pausedDelays (r : RegNum) (v : Doubleword) : (s.setPair r v).pausedDelays = s.pausedDelays := by simp [State.setPair]
@[simp] theorem setPair_stale (r : RegNum) (v : Doubleword) : (s.setPair r v).stale = s.stale := by simp [State.setPair]
@[simp] theorem setPair_platform (r : RegNum) (v : Doubleword) : (s.setPair r v).platform = s.platform := by simp [State.setPair]
@[simp] theorem setPair_inputs (r : RegNum) (v : Doubleword) : (s.setPair r v).inputs = s.inputs := by simp [State.setPair]
@[simp] theorem setPair_draws (r : RegNum) (v : Doubleword) : (s.setPair r v).draws = s.draws := by simp [State.setPair]

/-! `State.setFreg` changes f only. -/

@[simp] theorem setFreg_pc (r : RegNum) (v : Word) : (s.setFreg r v).pc = s.pc := rfl
@[simp] theorem setFreg_npc (r : RegNum) (v : Word) : (s.setFreg r v).npc = s.npc := rfl
@[simp] theorem setFreg_g (r : RegNum) (v : Word) : (s.setFreg r v).g = s.g := rfl
@[simp] theorem setFreg_w (r : RegNum) (v : Word) : (s.setFreg r v).w = s.w := rfl
@[simp] theorem setFreg_psr (r : RegNum) (v : Word) : (s.setFreg r v).psr = s.psr := rfl
@[simp] theorem setFreg_wim (r : RegNum) (v : Word) : (s.setFreg r v).wim = s.wim := rfl
@[simp] theorem setFreg_tbr (r : RegNum) (v : Word) : (s.setFreg r v).tbr = s.tbr := rfl
@[simp] theorem setFreg_y (r : RegNum) (v : Word) : (s.setFreg r v).y = s.y := rfl
@[simp] theorem setFreg_fsr (r : RegNum) (v : Word) : (s.setFreg r v).fsr = s.fsr := rfl
@[simp] theorem setFreg_fq (r : RegNum) (v : Word) : (s.setFreg r v).fq = s.fq := rfl
@[simp] theorem setFreg_fpuMode (r : RegNum) (v : Word) : (s.setFreg r v).fpuMode = s.fpuMode := rfl
@[simp] theorem setFreg_cp (r : RegNum) (v : Word) : (s.setFreg r v).cp = s.cp := rfl
@[simp] theorem setFreg_mem (r : RegNum) (v : Word) : (s.setFreg r v).mem = s.mem := rfl
@[simp] theorem setFreg_errorMode (r : RegNum) (v : Word) : (s.setFreg r v).errorMode = s.errorMode := rfl
@[simp] theorem setFreg_psrWrite (r : RegNum) (v : Word) : (s.setFreg r v).psrWrite = s.psrWrite := rfl
@[simp] theorem setFreg_wimWrite (r : RegNum) (v : Word) : (s.setFreg r v).wimWrite = s.wimWrite := rfl
@[simp] theorem setFreg_tbrWrite (r : RegNum) (v : Word) : (s.setFreg r v).tbrWrite = s.tbrWrite := rfl
@[simp] theorem setFreg_yWrite (r : RegNum) (v : Word) : (s.setFreg r v).yWrite = s.yWrite := rfl
@[simp] theorem setFreg_prev (r : RegNum) (v : Word) : (s.setFreg r v).prev = s.prev := rfl
@[simp] theorem setFreg_pausedDelays (r : RegNum) (v : Word) : (s.setFreg r v).pausedDelays = s.pausedDelays := rfl
@[simp] theorem setFreg_stale (r : RegNum) (v : Word) : (s.setFreg r v).stale = s.stale := rfl
@[simp] theorem setFreg_platform (r : RegNum) (v : Word) : (s.setFreg r v).platform = s.platform := rfl
@[simp] theorem setFreg_inputs (r : RegNum) (v : Word) : (s.setFreg r v).inputs = s.inputs := rfl
@[simp] theorem setFreg_draws (r : RegNum) (v : Word) : (s.setFreg r v).draws = s.draws := rfl

/-! `State.setFdouble` changes f only. -/

@[simp] theorem setFdouble_pc (r : RegNum) (v : Doubleword) : (s.setFdouble r v).pc = s.pc := by simp [State.setFdouble]
@[simp] theorem setFdouble_npc (r : RegNum) (v : Doubleword) : (s.setFdouble r v).npc = s.npc := by simp [State.setFdouble]
@[simp] theorem setFdouble_g (r : RegNum) (v : Doubleword) : (s.setFdouble r v).g = s.g := by simp [State.setFdouble]
@[simp] theorem setFdouble_w (r : RegNum) (v : Doubleword) : (s.setFdouble r v).w = s.w := by simp [State.setFdouble]
@[simp] theorem setFdouble_psr (r : RegNum) (v : Doubleword) : (s.setFdouble r v).psr = s.psr := by simp [State.setFdouble]
@[simp] theorem setFdouble_wim (r : RegNum) (v : Doubleword) : (s.setFdouble r v).wim = s.wim := by simp [State.setFdouble]
@[simp] theorem setFdouble_tbr (r : RegNum) (v : Doubleword) : (s.setFdouble r v).tbr = s.tbr := by simp [State.setFdouble]
@[simp] theorem setFdouble_y (r : RegNum) (v : Doubleword) : (s.setFdouble r v).y = s.y := by simp [State.setFdouble]
@[simp] theorem setFdouble_fsr (r : RegNum) (v : Doubleword) : (s.setFdouble r v).fsr = s.fsr := by simp [State.setFdouble]
@[simp] theorem setFdouble_fq (r : RegNum) (v : Doubleword) : (s.setFdouble r v).fq = s.fq := by simp [State.setFdouble]
@[simp] theorem setFdouble_fpuMode (r : RegNum) (v : Doubleword) : (s.setFdouble r v).fpuMode = s.fpuMode := by simp [State.setFdouble]
@[simp] theorem setFdouble_cp (r : RegNum) (v : Doubleword) : (s.setFdouble r v).cp = s.cp := by simp [State.setFdouble]
@[simp] theorem setFdouble_mem (r : RegNum) (v : Doubleword) : (s.setFdouble r v).mem = s.mem := by simp [State.setFdouble]
@[simp] theorem setFdouble_errorMode (r : RegNum) (v : Doubleword) : (s.setFdouble r v).errorMode = s.errorMode := by simp [State.setFdouble]
@[simp] theorem setFdouble_psrWrite (r : RegNum) (v : Doubleword) : (s.setFdouble r v).psrWrite = s.psrWrite := by simp [State.setFdouble]
@[simp] theorem setFdouble_wimWrite (r : RegNum) (v : Doubleword) : (s.setFdouble r v).wimWrite = s.wimWrite := by simp [State.setFdouble]
@[simp] theorem setFdouble_tbrWrite (r : RegNum) (v : Doubleword) : (s.setFdouble r v).tbrWrite = s.tbrWrite := by simp [State.setFdouble]
@[simp] theorem setFdouble_yWrite (r : RegNum) (v : Doubleword) : (s.setFdouble r v).yWrite = s.yWrite := by simp [State.setFdouble]
@[simp] theorem setFdouble_prev (r : RegNum) (v : Doubleword) : (s.setFdouble r v).prev = s.prev := by simp [State.setFdouble]
@[simp] theorem setFdouble_pausedDelays (r : RegNum) (v : Doubleword) : (s.setFdouble r v).pausedDelays = s.pausedDelays := by simp [State.setFdouble]
@[simp] theorem setFdouble_stale (r : RegNum) (v : Doubleword) : (s.setFdouble r v).stale = s.stale := by simp [State.setFdouble]
@[simp] theorem setFdouble_platform (r : RegNum) (v : Doubleword) : (s.setFdouble r v).platform = s.platform := by simp [State.setFdouble]
@[simp] theorem setFdouble_inputs (r : RegNum) (v : Doubleword) : (s.setFdouble r v).inputs = s.inputs := by simp [State.setFdouble]
@[simp] theorem setFdouble_draws (r : RegNum) (v : Doubleword) : (s.setFdouble r v).draws = s.draws := by simp [State.setFdouble]

/-! `State.setFextended` changes f only. -/

@[simp] theorem setFextended_pc (r : RegNum) (v : BitVec 96) : (s.setFextended r v).pc = s.pc := by simp [State.setFextended]
@[simp] theorem setFextended_npc (r : RegNum) (v : BitVec 96) : (s.setFextended r v).npc = s.npc := by simp [State.setFextended]
@[simp] theorem setFextended_g (r : RegNum) (v : BitVec 96) : (s.setFextended r v).g = s.g := by simp [State.setFextended]
@[simp] theorem setFextended_w (r : RegNum) (v : BitVec 96) : (s.setFextended r v).w = s.w := by simp [State.setFextended]
@[simp] theorem setFextended_psr (r : RegNum) (v : BitVec 96) : (s.setFextended r v).psr = s.psr := by simp [State.setFextended]
@[simp] theorem setFextended_wim (r : RegNum) (v : BitVec 96) : (s.setFextended r v).wim = s.wim := by simp [State.setFextended]
@[simp] theorem setFextended_tbr (r : RegNum) (v : BitVec 96) : (s.setFextended r v).tbr = s.tbr := by simp [State.setFextended]
@[simp] theorem setFextended_y (r : RegNum) (v : BitVec 96) : (s.setFextended r v).y = s.y := by simp [State.setFextended]
@[simp] theorem setFextended_fsr (r : RegNum) (v : BitVec 96) : (s.setFextended r v).fsr = s.fsr := by simp [State.setFextended]
@[simp] theorem setFextended_fq (r : RegNum) (v : BitVec 96) : (s.setFextended r v).fq = s.fq := by simp [State.setFextended]
@[simp] theorem setFextended_fpuMode (r : RegNum) (v : BitVec 96) : (s.setFextended r v).fpuMode = s.fpuMode := by simp [State.setFextended]
@[simp] theorem setFextended_cp (r : RegNum) (v : BitVec 96) : (s.setFextended r v).cp = s.cp := by simp [State.setFextended]
@[simp] theorem setFextended_mem (r : RegNum) (v : BitVec 96) : (s.setFextended r v).mem = s.mem := by simp [State.setFextended]
@[simp] theorem setFextended_errorMode (r : RegNum) (v : BitVec 96) : (s.setFextended r v).errorMode = s.errorMode := by simp [State.setFextended]
@[simp] theorem setFextended_psrWrite (r : RegNum) (v : BitVec 96) : (s.setFextended r v).psrWrite = s.psrWrite := by simp [State.setFextended]
@[simp] theorem setFextended_wimWrite (r : RegNum) (v : BitVec 96) : (s.setFextended r v).wimWrite = s.wimWrite := by simp [State.setFextended]
@[simp] theorem setFextended_tbrWrite (r : RegNum) (v : BitVec 96) : (s.setFextended r v).tbrWrite = s.tbrWrite := by simp [State.setFextended]
@[simp] theorem setFextended_yWrite (r : RegNum) (v : BitVec 96) : (s.setFextended r v).yWrite = s.yWrite := by simp [State.setFextended]
@[simp] theorem setFextended_prev (r : RegNum) (v : BitVec 96) : (s.setFextended r v).prev = s.prev := by simp [State.setFextended]
@[simp] theorem setFextended_pausedDelays (r : RegNum) (v : BitVec 96) : (s.setFextended r v).pausedDelays = s.pausedDelays := by simp [State.setFextended]
@[simp] theorem setFextended_stale (r : RegNum) (v : BitVec 96) : (s.setFextended r v).stale = s.stale := by simp [State.setFextended]
@[simp] theorem setFextended_platform (r : RegNum) (v : BitVec 96) : (s.setFextended r v).platform = s.platform := by simp [State.setFextended]
@[simp] theorem setFextended_inputs (r : RegNum) (v : BitVec 96) : (s.setFextended r v).inputs = s.inputs := by simp [State.setFextended]
@[simp] theorem setFextended_draws (r : RegNum) (v : BitVec 96) : (s.setFextended r v).draws = s.draws := by simp [State.setFextended]

/-! `State.setCreg` changes cp only. -/

@[simp] theorem setCreg_pc (r : RegNum) (v : Word) : (s.setCreg r v).pc = s.pc := rfl
@[simp] theorem setCreg_npc (r : RegNum) (v : Word) : (s.setCreg r v).npc = s.npc := rfl
@[simp] theorem setCreg_g (r : RegNum) (v : Word) : (s.setCreg r v).g = s.g := rfl
@[simp] theorem setCreg_w (r : RegNum) (v : Word) : (s.setCreg r v).w = s.w := rfl
@[simp] theorem setCreg_psr (r : RegNum) (v : Word) : (s.setCreg r v).psr = s.psr := rfl
@[simp] theorem setCreg_wim (r : RegNum) (v : Word) : (s.setCreg r v).wim = s.wim := rfl
@[simp] theorem setCreg_tbr (r : RegNum) (v : Word) : (s.setCreg r v).tbr = s.tbr := rfl
@[simp] theorem setCreg_y (r : RegNum) (v : Word) : (s.setCreg r v).y = s.y := rfl
@[simp] theorem setCreg_f (r : RegNum) (v : Word) : (s.setCreg r v).f = s.f := rfl
@[simp] theorem setCreg_fsr (r : RegNum) (v : Word) : (s.setCreg r v).fsr = s.fsr := rfl
@[simp] theorem setCreg_fq (r : RegNum) (v : Word) : (s.setCreg r v).fq = s.fq := rfl
@[simp] theorem setCreg_fpuMode (r : RegNum) (v : Word) : (s.setCreg r v).fpuMode = s.fpuMode := rfl
@[simp] theorem setCreg_mem (r : RegNum) (v : Word) : (s.setCreg r v).mem = s.mem := rfl
@[simp] theorem setCreg_errorMode (r : RegNum) (v : Word) : (s.setCreg r v).errorMode = s.errorMode := rfl
@[simp] theorem setCreg_psrWrite (r : RegNum) (v : Word) : (s.setCreg r v).psrWrite = s.psrWrite := rfl
@[simp] theorem setCreg_wimWrite (r : RegNum) (v : Word) : (s.setCreg r v).wimWrite = s.wimWrite := rfl
@[simp] theorem setCreg_tbrWrite (r : RegNum) (v : Word) : (s.setCreg r v).tbrWrite = s.tbrWrite := rfl
@[simp] theorem setCreg_yWrite (r : RegNum) (v : Word) : (s.setCreg r v).yWrite = s.yWrite := rfl
@[simp] theorem setCreg_prev (r : RegNum) (v : Word) : (s.setCreg r v).prev = s.prev := rfl
@[simp] theorem setCreg_pausedDelays (r : RegNum) (v : Word) : (s.setCreg r v).pausedDelays = s.pausedDelays := rfl
@[simp] theorem setCreg_stale (r : RegNum) (v : Word) : (s.setCreg r v).stale = s.stale := rfl
@[simp] theorem setCreg_platform (r : RegNum) (v : Word) : (s.setCreg r v).platform = s.platform := rfl
@[simp] theorem setCreg_inputs (r : RegNum) (v : Word) : (s.setCreg r v).inputs = s.inputs := rfl
@[simp] theorem setCreg_draws (r : RegNum) (v : Word) : (s.setCreg r v).draws = s.draws := rfl

/-! `State.storeByte` changes mem, stale only. -/

@[simp] theorem storeByte_pc (st : Nat) (a : Word) (v : Byte) : (s.storeByte st a v).pc = s.pc := rfl
@[simp] theorem storeByte_npc (st : Nat) (a : Word) (v : Byte) : (s.storeByte st a v).npc = s.npc := rfl
@[simp] theorem storeByte_g (st : Nat) (a : Word) (v : Byte) : (s.storeByte st a v).g = s.g := rfl
@[simp] theorem storeByte_w (st : Nat) (a : Word) (v : Byte) : (s.storeByte st a v).w = s.w := rfl
@[simp] theorem storeByte_psr (st : Nat) (a : Word) (v : Byte) : (s.storeByte st a v).psr = s.psr := rfl
@[simp] theorem storeByte_wim (st : Nat) (a : Word) (v : Byte) : (s.storeByte st a v).wim = s.wim := rfl
@[simp] theorem storeByte_tbr (st : Nat) (a : Word) (v : Byte) : (s.storeByte st a v).tbr = s.tbr := rfl
@[simp] theorem storeByte_y (st : Nat) (a : Word) (v : Byte) : (s.storeByte st a v).y = s.y := rfl
@[simp] theorem storeByte_f (st : Nat) (a : Word) (v : Byte) : (s.storeByte st a v).f = s.f := rfl
@[simp] theorem storeByte_fsr (st : Nat) (a : Word) (v : Byte) : (s.storeByte st a v).fsr = s.fsr := rfl
@[simp] theorem storeByte_fq (st : Nat) (a : Word) (v : Byte) : (s.storeByte st a v).fq = s.fq := rfl
@[simp] theorem storeByte_fpuMode (st : Nat) (a : Word) (v : Byte) : (s.storeByte st a v).fpuMode = s.fpuMode := rfl
@[simp] theorem storeByte_cp (st : Nat) (a : Word) (v : Byte) : (s.storeByte st a v).cp = s.cp := rfl
@[simp] theorem storeByte_errorMode (st : Nat) (a : Word) (v : Byte) : (s.storeByte st a v).errorMode = s.errorMode := rfl
@[simp] theorem storeByte_psrWrite (st : Nat) (a : Word) (v : Byte) : (s.storeByte st a v).psrWrite = s.psrWrite := rfl
@[simp] theorem storeByte_wimWrite (st : Nat) (a : Word) (v : Byte) : (s.storeByte st a v).wimWrite = s.wimWrite := rfl
@[simp] theorem storeByte_tbrWrite (st : Nat) (a : Word) (v : Byte) : (s.storeByte st a v).tbrWrite = s.tbrWrite := rfl
@[simp] theorem storeByte_yWrite (st : Nat) (a : Word) (v : Byte) : (s.storeByte st a v).yWrite = s.yWrite := rfl
@[simp] theorem storeByte_prev (st : Nat) (a : Word) (v : Byte) : (s.storeByte st a v).prev = s.prev := rfl
@[simp] theorem storeByte_pausedDelays (st : Nat) (a : Word) (v : Byte) : (s.storeByte st a v).pausedDelays = s.pausedDelays := rfl
@[simp] theorem storeByte_platform (st : Nat) (a : Word) (v : Byte) : (s.storeByte st a v).platform = s.platform := rfl
@[simp] theorem storeByte_inputs (st : Nat) (a : Word) (v : Byte) : (s.storeByte st a v).inputs = s.inputs := rfl
@[simp] theorem storeByte_draws (st : Nat) (a : Word) (v : Byte) : (s.storeByte st a v).draws = s.draws := rfl
@[simp] theorem storeByte_mem (st : Nat) (a : Word) (v : Byte) : (s.storeByte st a v).mem = Memory.write s.mem (memKey st a) v := rfl

/-! `State.storeHalf` changes mem, stale only. -/

@[simp] theorem storeHalf_pc (st : Nat) (a : Word) (v : Halfword) : (s.storeHalf st a v).pc = s.pc := by simp [State.storeHalf]
@[simp] theorem storeHalf_npc (st : Nat) (a : Word) (v : Halfword) : (s.storeHalf st a v).npc = s.npc := by simp [State.storeHalf]
@[simp] theorem storeHalf_g (st : Nat) (a : Word) (v : Halfword) : (s.storeHalf st a v).g = s.g := by simp [State.storeHalf]
@[simp] theorem storeHalf_w (st : Nat) (a : Word) (v : Halfword) : (s.storeHalf st a v).w = s.w := by simp [State.storeHalf]
@[simp] theorem storeHalf_psr (st : Nat) (a : Word) (v : Halfword) : (s.storeHalf st a v).psr = s.psr := by simp [State.storeHalf]
@[simp] theorem storeHalf_wim (st : Nat) (a : Word) (v : Halfword) : (s.storeHalf st a v).wim = s.wim := by simp [State.storeHalf]
@[simp] theorem storeHalf_tbr (st : Nat) (a : Word) (v : Halfword) : (s.storeHalf st a v).tbr = s.tbr := by simp [State.storeHalf]
@[simp] theorem storeHalf_y (st : Nat) (a : Word) (v : Halfword) : (s.storeHalf st a v).y = s.y := by simp [State.storeHalf]
@[simp] theorem storeHalf_f (st : Nat) (a : Word) (v : Halfword) : (s.storeHalf st a v).f = s.f := by simp [State.storeHalf]
@[simp] theorem storeHalf_fsr (st : Nat) (a : Word) (v : Halfword) : (s.storeHalf st a v).fsr = s.fsr := by simp [State.storeHalf]
@[simp] theorem storeHalf_fq (st : Nat) (a : Word) (v : Halfword) : (s.storeHalf st a v).fq = s.fq := by simp [State.storeHalf]
@[simp] theorem storeHalf_fpuMode (st : Nat) (a : Word) (v : Halfword) : (s.storeHalf st a v).fpuMode = s.fpuMode := by simp [State.storeHalf]
@[simp] theorem storeHalf_cp (st : Nat) (a : Word) (v : Halfword) : (s.storeHalf st a v).cp = s.cp := by simp [State.storeHalf]
@[simp] theorem storeHalf_errorMode (st : Nat) (a : Word) (v : Halfword) : (s.storeHalf st a v).errorMode = s.errorMode := by simp [State.storeHalf]
@[simp] theorem storeHalf_psrWrite (st : Nat) (a : Word) (v : Halfword) : (s.storeHalf st a v).psrWrite = s.psrWrite := by simp [State.storeHalf]
@[simp] theorem storeHalf_wimWrite (st : Nat) (a : Word) (v : Halfword) : (s.storeHalf st a v).wimWrite = s.wimWrite := by simp [State.storeHalf]
@[simp] theorem storeHalf_tbrWrite (st : Nat) (a : Word) (v : Halfword) : (s.storeHalf st a v).tbrWrite = s.tbrWrite := by simp [State.storeHalf]
@[simp] theorem storeHalf_yWrite (st : Nat) (a : Word) (v : Halfword) : (s.storeHalf st a v).yWrite = s.yWrite := by simp [State.storeHalf]
@[simp] theorem storeHalf_prev (st : Nat) (a : Word) (v : Halfword) : (s.storeHalf st a v).prev = s.prev := by simp [State.storeHalf]
@[simp] theorem storeHalf_pausedDelays (st : Nat) (a : Word) (v : Halfword) : (s.storeHalf st a v).pausedDelays = s.pausedDelays := by simp [State.storeHalf]
@[simp] theorem storeHalf_platform (st : Nat) (a : Word) (v : Halfword) : (s.storeHalf st a v).platform = s.platform := by simp [State.storeHalf]
@[simp] theorem storeHalf_inputs (st : Nat) (a : Word) (v : Halfword) : (s.storeHalf st a v).inputs = s.inputs := by simp [State.storeHalf]
@[simp] theorem storeHalf_draws (st : Nat) (a : Word) (v : Halfword) : (s.storeHalf st a v).draws = s.draws := by simp [State.storeHalf]

/-! `State.storeWord` changes mem, stale only. -/

@[simp] theorem storeWord_pc (st : Nat) (a : Word) (v : Word) : (s.storeWord st a v).pc = s.pc := by simp [State.storeWord]
@[simp] theorem storeWord_npc (st : Nat) (a : Word) (v : Word) : (s.storeWord st a v).npc = s.npc := by simp [State.storeWord]
@[simp] theorem storeWord_g (st : Nat) (a : Word) (v : Word) : (s.storeWord st a v).g = s.g := by simp [State.storeWord]
@[simp] theorem storeWord_w (st : Nat) (a : Word) (v : Word) : (s.storeWord st a v).w = s.w := by simp [State.storeWord]
@[simp] theorem storeWord_psr (st : Nat) (a : Word) (v : Word) : (s.storeWord st a v).psr = s.psr := by simp [State.storeWord]
@[simp] theorem storeWord_wim (st : Nat) (a : Word) (v : Word) : (s.storeWord st a v).wim = s.wim := by simp [State.storeWord]
@[simp] theorem storeWord_tbr (st : Nat) (a : Word) (v : Word) : (s.storeWord st a v).tbr = s.tbr := by simp [State.storeWord]
@[simp] theorem storeWord_y (st : Nat) (a : Word) (v : Word) : (s.storeWord st a v).y = s.y := by simp [State.storeWord]
@[simp] theorem storeWord_f (st : Nat) (a : Word) (v : Word) : (s.storeWord st a v).f = s.f := by simp [State.storeWord]
@[simp] theorem storeWord_fsr (st : Nat) (a : Word) (v : Word) : (s.storeWord st a v).fsr = s.fsr := by simp [State.storeWord]
@[simp] theorem storeWord_fq (st : Nat) (a : Word) (v : Word) : (s.storeWord st a v).fq = s.fq := by simp [State.storeWord]
@[simp] theorem storeWord_fpuMode (st : Nat) (a : Word) (v : Word) : (s.storeWord st a v).fpuMode = s.fpuMode := by simp [State.storeWord]
@[simp] theorem storeWord_cp (st : Nat) (a : Word) (v : Word) : (s.storeWord st a v).cp = s.cp := by simp [State.storeWord]
@[simp] theorem storeWord_errorMode (st : Nat) (a : Word) (v : Word) : (s.storeWord st a v).errorMode = s.errorMode := by simp [State.storeWord]
@[simp] theorem storeWord_psrWrite (st : Nat) (a : Word) (v : Word) : (s.storeWord st a v).psrWrite = s.psrWrite := by simp [State.storeWord]
@[simp] theorem storeWord_wimWrite (st : Nat) (a : Word) (v : Word) : (s.storeWord st a v).wimWrite = s.wimWrite := by simp [State.storeWord]
@[simp] theorem storeWord_tbrWrite (st : Nat) (a : Word) (v : Word) : (s.storeWord st a v).tbrWrite = s.tbrWrite := by simp [State.storeWord]
@[simp] theorem storeWord_yWrite (st : Nat) (a : Word) (v : Word) : (s.storeWord st a v).yWrite = s.yWrite := by simp [State.storeWord]
@[simp] theorem storeWord_prev (st : Nat) (a : Word) (v : Word) : (s.storeWord st a v).prev = s.prev := by simp [State.storeWord]
@[simp] theorem storeWord_pausedDelays (st : Nat) (a : Word) (v : Word) : (s.storeWord st a v).pausedDelays = s.pausedDelays := by simp [State.storeWord]
@[simp] theorem storeWord_platform (st : Nat) (a : Word) (v : Word) : (s.storeWord st a v).platform = s.platform := by simp [State.storeWord]
@[simp] theorem storeWord_inputs (st : Nat) (a : Word) (v : Word) : (s.storeWord st a v).inputs = s.inputs := by simp [State.storeWord]
@[simp] theorem storeWord_draws (st : Nat) (a : Word) (v : Word) : (s.storeWord st a v).draws = s.draws := by simp [State.storeWord]

/-! `State.storeDouble` changes mem, stale only. -/

@[simp] theorem storeDouble_pc (st : Nat) (a : Word) (v : Doubleword) : (s.storeDouble st a v).pc = s.pc := by simp [State.storeDouble]
@[simp] theorem storeDouble_npc (st : Nat) (a : Word) (v : Doubleword) : (s.storeDouble st a v).npc = s.npc := by simp [State.storeDouble]
@[simp] theorem storeDouble_g (st : Nat) (a : Word) (v : Doubleword) : (s.storeDouble st a v).g = s.g := by simp [State.storeDouble]
@[simp] theorem storeDouble_w (st : Nat) (a : Word) (v : Doubleword) : (s.storeDouble st a v).w = s.w := by simp [State.storeDouble]
@[simp] theorem storeDouble_psr (st : Nat) (a : Word) (v : Doubleword) : (s.storeDouble st a v).psr = s.psr := by simp [State.storeDouble]
@[simp] theorem storeDouble_wim (st : Nat) (a : Word) (v : Doubleword) : (s.storeDouble st a v).wim = s.wim := by simp [State.storeDouble]
@[simp] theorem storeDouble_tbr (st : Nat) (a : Word) (v : Doubleword) : (s.storeDouble st a v).tbr = s.tbr := by simp [State.storeDouble]
@[simp] theorem storeDouble_y (st : Nat) (a : Word) (v : Doubleword) : (s.storeDouble st a v).y = s.y := by simp [State.storeDouble]
@[simp] theorem storeDouble_f (st : Nat) (a : Word) (v : Doubleword) : (s.storeDouble st a v).f = s.f := by simp [State.storeDouble]
@[simp] theorem storeDouble_fsr (st : Nat) (a : Word) (v : Doubleword) : (s.storeDouble st a v).fsr = s.fsr := by simp [State.storeDouble]
@[simp] theorem storeDouble_fq (st : Nat) (a : Word) (v : Doubleword) : (s.storeDouble st a v).fq = s.fq := by simp [State.storeDouble]
@[simp] theorem storeDouble_fpuMode (st : Nat) (a : Word) (v : Doubleword) : (s.storeDouble st a v).fpuMode = s.fpuMode := by simp [State.storeDouble]
@[simp] theorem storeDouble_cp (st : Nat) (a : Word) (v : Doubleword) : (s.storeDouble st a v).cp = s.cp := by simp [State.storeDouble]
@[simp] theorem storeDouble_errorMode (st : Nat) (a : Word) (v : Doubleword) : (s.storeDouble st a v).errorMode = s.errorMode := by simp [State.storeDouble]
@[simp] theorem storeDouble_psrWrite (st : Nat) (a : Word) (v : Doubleword) : (s.storeDouble st a v).psrWrite = s.psrWrite := by simp [State.storeDouble]
@[simp] theorem storeDouble_wimWrite (st : Nat) (a : Word) (v : Doubleword) : (s.storeDouble st a v).wimWrite = s.wimWrite := by simp [State.storeDouble]
@[simp] theorem storeDouble_tbrWrite (st : Nat) (a : Word) (v : Doubleword) : (s.storeDouble st a v).tbrWrite = s.tbrWrite := by simp [State.storeDouble]
@[simp] theorem storeDouble_yWrite (st : Nat) (a : Word) (v : Doubleword) : (s.storeDouble st a v).yWrite = s.yWrite := by simp [State.storeDouble]
@[simp] theorem storeDouble_prev (st : Nat) (a : Word) (v : Doubleword) : (s.storeDouble st a v).prev = s.prev := by simp [State.storeDouble]
@[simp] theorem storeDouble_pausedDelays (st : Nat) (a : Word) (v : Doubleword) : (s.storeDouble st a v).pausedDelays = s.pausedDelays := by simp [State.storeDouble]
@[simp] theorem storeDouble_platform (st : Nat) (a : Word) (v : Doubleword) : (s.storeDouble st a v).platform = s.platform := by simp [State.storeDouble]
@[simp] theorem storeDouble_inputs (st : Nat) (a : Word) (v : Doubleword) : (s.storeDouble st a v).inputs = s.inputs := by simp [State.storeDouble]
@[simp] theorem storeDouble_draws (st : Nat) (a : Word) (v : Doubleword) : (s.storeDouble st a v).draws = s.draws := by simp [State.storeDouble]

/-! `State.retire` changes pc, npc, prev, psrWrite, wimWrite, tbrWrite, yWrite, draws only. -/

@[simp] theorem retire_g (p n : Word) (k : Prev) : (s.retire p n k).g = s.g := rfl
@[simp] theorem retire_w (p n : Word) (k : Prev) : (s.retire p n k).w = s.w := rfl
@[simp] theorem retire_psr (p n : Word) (k : Prev) : (s.retire p n k).psr = s.psr := rfl
@[simp] theorem retire_wim (p n : Word) (k : Prev) : (s.retire p n k).wim = s.wim := rfl
@[simp] theorem retire_tbr (p n : Word) (k : Prev) : (s.retire p n k).tbr = s.tbr := rfl
@[simp] theorem retire_y (p n : Word) (k : Prev) : (s.retire p n k).y = s.y := rfl
@[simp] theorem retire_f (p n : Word) (k : Prev) : (s.retire p n k).f = s.f := rfl
@[simp] theorem retire_fsr (p n : Word) (k : Prev) : (s.retire p n k).fsr = s.fsr := rfl
@[simp] theorem retire_fq (p n : Word) (k : Prev) : (s.retire p n k).fq = s.fq := rfl
@[simp] theorem retire_fpuMode (p n : Word) (k : Prev) : (s.retire p n k).fpuMode = s.fpuMode := rfl
@[simp] theorem retire_cp (p n : Word) (k : Prev) : (s.retire p n k).cp = s.cp := rfl
@[simp] theorem retire_mem (p n : Word) (k : Prev) : (s.retire p n k).mem = s.mem := rfl
@[simp] theorem retire_errorMode (p n : Word) (k : Prev) : (s.retire p n k).errorMode = s.errorMode := rfl
@[simp] theorem retire_pausedDelays (p n : Word) (k : Prev) : (s.retire p n k).pausedDelays = s.pausedDelays := rfl
@[simp] theorem retire_stale (p n : Word) (k : Prev) : (s.retire p n k).stale = s.stale := rfl
@[simp] theorem retire_platform (p n : Word) (k : Prev) : (s.retire p n k).platform = s.platform := rfl
@[simp] theorem retire_inputs (p n : Word) (k : Prev) : (s.retire p n k).inputs = s.inputs := rfl
@[simp] theorem retire_pc (p n : Word) (k : Prev) : (s.retire p n k).pc = p := rfl
@[simp] theorem retire_npc (p n : Word) (k : Prev) : (s.retire p n k).npc = n := rfl
@[simp] theorem retire_prev (p n : Word) (k : Prev) : (s.retire p n k).prev = k := rfl
@[simp] theorem retire_draws (p n : Word) (k : Prev) : (s.retire p n k).draws = s.draws + 1 := rfl
@[simp] theorem retire_psrWrite (p n : Word) (k : Prev) : (s.retire p n k).psrWrite = s.psrWrite.tick := rfl
@[simp] theorem retire_wimWrite (p n : Word) (k : Prev) : (s.retire p n k).wimWrite = s.wimWrite.tick := rfl
@[simp] theorem retire_tbrWrite (p n : Word) (k : Prev) : (s.retire p n k).tbrWrite = s.tbrWrite.tick := rfl
@[simp] theorem retire_yWrite (p n : Word) (k : Prev) : (s.retire p n k).yWrite = s.yWrite.tick := rfl

/-! `State.advance` changes pc, npc, prev, psrWrite, wimWrite, tbrWrite, yWrite, draws only. -/

@[simp] theorem advance_g : (s.advance).g = s.g := rfl
@[simp] theorem advance_w : (s.advance).w = s.w := rfl
@[simp] theorem advance_psr : (s.advance).psr = s.psr := rfl
@[simp] theorem advance_wim : (s.advance).wim = s.wim := rfl
@[simp] theorem advance_tbr : (s.advance).tbr = s.tbr := rfl
@[simp] theorem advance_y : (s.advance).y = s.y := rfl
@[simp] theorem advance_f : (s.advance).f = s.f := rfl
@[simp] theorem advance_fsr : (s.advance).fsr = s.fsr := rfl
@[simp] theorem advance_fq : (s.advance).fq = s.fq := rfl
@[simp] theorem advance_fpuMode : (s.advance).fpuMode = s.fpuMode := rfl
@[simp] theorem advance_cp : (s.advance).cp = s.cp := rfl
@[simp] theorem advance_mem : (s.advance).mem = s.mem := rfl
@[simp] theorem advance_errorMode : (s.advance).errorMode = s.errorMode := rfl
@[simp] theorem advance_pausedDelays : (s.advance).pausedDelays = s.pausedDelays := rfl
@[simp] theorem advance_stale : (s.advance).stale = s.stale := rfl
@[simp] theorem advance_platform : (s.advance).platform = s.platform := rfl
@[simp] theorem advance_inputs : (s.advance).inputs = s.inputs := rfl
@[simp] theorem advance_pc : s.advance.pc = s.npc := rfl
@[simp] theorem advance_npc : s.advance.npc = s.npc + 4 := rfl
@[simp] theorem advance_prev : s.advance.prev = .other := rfl
@[simp] theorem advance_draws : s.advance.draws = s.draws + 1 := rfl
@[simp] theorem advance_psrWrite : s.advance.psrWrite = s.psrWrite.tick := rfl
@[simp] theorem advance_wimWrite : s.advance.wimWrite = s.wimWrite.tick := rfl
@[simp] theorem advance_tbrWrite : s.advance.tbrWrite = s.tbrWrite.tick := rfl
@[simp] theorem advance_yWrite : s.advance.yWrite = s.yWrite.tick := rfl

/-! `State.advanceFp` changes pc, npc, prev, psrWrite, wimWrite, tbrWrite, yWrite, draws only. -/

@[simp] theorem advanceFp_g : (s.advanceFp).g = s.g := rfl
@[simp] theorem advanceFp_w : (s.advanceFp).w = s.w := rfl
@[simp] theorem advanceFp_psr : (s.advanceFp).psr = s.psr := rfl
@[simp] theorem advanceFp_wim : (s.advanceFp).wim = s.wim := rfl
@[simp] theorem advanceFp_tbr : (s.advanceFp).tbr = s.tbr := rfl
@[simp] theorem advanceFp_y : (s.advanceFp).y = s.y := rfl
@[simp] theorem advanceFp_f : (s.advanceFp).f = s.f := rfl
@[simp] theorem advanceFp_fsr : (s.advanceFp).fsr = s.fsr := rfl
@[simp] theorem advanceFp_fq : (s.advanceFp).fq = s.fq := rfl
@[simp] theorem advanceFp_fpuMode : (s.advanceFp).fpuMode = s.fpuMode := rfl
@[simp] theorem advanceFp_cp : (s.advanceFp).cp = s.cp := rfl
@[simp] theorem advanceFp_mem : (s.advanceFp).mem = s.mem := rfl
@[simp] theorem advanceFp_errorMode : (s.advanceFp).errorMode = s.errorMode := rfl
@[simp] theorem advanceFp_pausedDelays : (s.advanceFp).pausedDelays = s.pausedDelays := rfl
@[simp] theorem advanceFp_stale : (s.advanceFp).stale = s.stale := rfl
@[simp] theorem advanceFp_platform : (s.advanceFp).platform = s.platform := rfl
@[simp] theorem advanceFp_inputs : (s.advanceFp).inputs = s.inputs := rfl
@[simp] theorem advanceFp_pc : s.advanceFp.pc = s.npc := rfl
@[simp] theorem advanceFp_npc : s.advanceFp.npc = s.npc + 4 := rfl
@[simp] theorem advanceFp_prev : s.advanceFp.prev = .fp := rfl
@[simp] theorem advanceFp_draws : s.advanceFp.draws = s.draws + 1 := rfl
@[simp] theorem advanceFp_psrWrite : s.advanceFp.psrWrite = s.psrWrite.tick := rfl
@[simp] theorem advanceFp_wimWrite : s.advanceFp.wimWrite = s.wimWrite.tick := rfl
@[simp] theorem advanceFp_tbrWrite : s.advanceFp.tbrWrite = s.tbrWrite.tick := rfl
@[simp] theorem advanceFp_yWrite : s.advanceFp.yWrite = s.yWrite.tick := rfl

/-! `State.advanceCp` changes pc, npc, prev, psrWrite, wimWrite, tbrWrite, yWrite, draws only. -/

@[simp] theorem advanceCp_g : (s.advanceCp).g = s.g := rfl
@[simp] theorem advanceCp_w : (s.advanceCp).w = s.w := rfl
@[simp] theorem advanceCp_psr : (s.advanceCp).psr = s.psr := rfl
@[simp] theorem advanceCp_wim : (s.advanceCp).wim = s.wim := rfl
@[simp] theorem advanceCp_tbr : (s.advanceCp).tbr = s.tbr := rfl
@[simp] theorem advanceCp_y : (s.advanceCp).y = s.y := rfl
@[simp] theorem advanceCp_f : (s.advanceCp).f = s.f := rfl
@[simp] theorem advanceCp_fsr : (s.advanceCp).fsr = s.fsr := rfl
@[simp] theorem advanceCp_fq : (s.advanceCp).fq = s.fq := rfl
@[simp] theorem advanceCp_fpuMode : (s.advanceCp).fpuMode = s.fpuMode := rfl
@[simp] theorem advanceCp_cp : (s.advanceCp).cp = s.cp := rfl
@[simp] theorem advanceCp_mem : (s.advanceCp).mem = s.mem := rfl
@[simp] theorem advanceCp_errorMode : (s.advanceCp).errorMode = s.errorMode := rfl
@[simp] theorem advanceCp_pausedDelays : (s.advanceCp).pausedDelays = s.pausedDelays := rfl
@[simp] theorem advanceCp_stale : (s.advanceCp).stale = s.stale := rfl
@[simp] theorem advanceCp_platform : (s.advanceCp).platform = s.platform := rfl
@[simp] theorem advanceCp_inputs : (s.advanceCp).inputs = s.inputs := rfl
@[simp] theorem advanceCp_pc : s.advanceCp.pc = s.npc := rfl
@[simp] theorem advanceCp_npc : s.advanceCp.npc = s.npc + 4 := rfl
@[simp] theorem advanceCp_prev : s.advanceCp.prev = .cp := rfl
@[simp] theorem advanceCp_draws : s.advanceCp.draws = s.draws + 1 := rfl
@[simp] theorem advanceCp_psrWrite : s.advanceCp.psrWrite = s.psrWrite.tick := rfl
@[simp] theorem advanceCp_wimWrite : s.advanceCp.wimWrite = s.wimWrite.tick := rfl
@[simp] theorem advanceCp_tbrWrite : s.advanceCp.tbrWrite = s.tbrWrite.tick := rfl
@[simp] theorem advanceCp_yWrite : s.advanceCp.yWrite = s.yWrite.tick := rfl

/-! `State.enterTrap` changes pc, npc, g, w, psr, tbr, prev, pausedDelays, psrWrite, wimWrite, tbrWrite, yWrite, draws only. -/

@[simp] theorem enterTrap_wim (t : Trap) : (s.enterTrap t).wim = s.wim := by simp [State.enterTrap]
@[simp] theorem enterTrap_y (t : Trap) : (s.enterTrap t).y = s.y := by simp [State.enterTrap]
@[simp] theorem enterTrap_f (t : Trap) : (s.enterTrap t).f = s.f := by simp [State.enterTrap]
@[simp] theorem enterTrap_fsr (t : Trap) : (s.enterTrap t).fsr = s.fsr := by simp [State.enterTrap]
@[simp] theorem enterTrap_fq (t : Trap) : (s.enterTrap t).fq = s.fq := by simp [State.enterTrap]
@[simp] theorem enterTrap_fpuMode (t : Trap) : (s.enterTrap t).fpuMode = s.fpuMode := by simp [State.enterTrap]
@[simp] theorem enterTrap_cp (t : Trap) : (s.enterTrap t).cp = s.cp := by simp [State.enterTrap]
@[simp] theorem enterTrap_mem (t : Trap) : (s.enterTrap t).mem = s.mem := by simp [State.enterTrap]
@[simp] theorem enterTrap_errorMode (t : Trap) : (s.enterTrap t).errorMode = s.errorMode := by simp [State.enterTrap]
@[simp] theorem enterTrap_stale (t : Trap) : (s.enterTrap t).stale = s.stale := by simp [State.enterTrap]
@[simp] theorem enterTrap_platform (t : Trap) : (s.enterTrap t).platform = s.platform := by simp [State.enterTrap]
@[simp] theorem enterTrap_inputs (t : Trap) : (s.enterTrap t).inputs = s.inputs := by simp [State.enterTrap]
@[simp] theorem enterTrap_psr (t : Trap) : (s.enterTrap t).psr = { s.psr with et := false, ps := s.psr.s, s := true, cwp := prevWindow s.psr.cwp } := rfl
@[simp] theorem enterTrap_tbr (t : Trap) : (s.enterTrap t).tbr = tbrWord (tbaOf s.tbr) t.tt := rfl
@[simp] theorem enterTrap_pc (t : Trap) : (s.enterTrap t).pc = tbrWord s.vectorTba t.tt := rfl
@[simp] theorem enterTrap_npc (t : Trap) : (s.enterTrap t).npc = tbrWord s.vectorTba t.tt + 4 := rfl
@[simp] theorem enterTrap_psrWrite (t : Trap) : (s.enterTrap t).psrWrite = s.psrWrite.close := rfl
@[simp] theorem enterTrap_wimWrite (t : Trap) : (s.enterTrap t).wimWrite = s.wimWrite.close := rfl
@[simp] theorem enterTrap_tbrWrite (t : Trap) : (s.enterTrap t).tbrWrite = s.tbrWrite.close := rfl
@[simp] theorem enterTrap_yWrite (t : Trap) : (s.enterTrap t).yWrite = s.yWrite.close := rfl
@[simp] theorem enterTrap_prev (t : Trap) : (s.enterTrap t).prev = s.prev.acrossTrap := rfl
@[simp] theorem enterTrap_pausedDelays (t : Trap) : (s.enterTrap t).pausedDelays = s.delaysAtTrap := rfl
@[simp] theorem enterTrap_draws (t : Trap) : (s.enterTrap t).draws = s.draws + 1 := rfl

/-! `State.enterError` changes tbr, errorMode, draws only. -/

@[simp] theorem enterError_pc (t : Trap) : (s.enterError t).pc = s.pc := rfl
@[simp] theorem enterError_npc (t : Trap) : (s.enterError t).npc = s.npc := rfl
@[simp] theorem enterError_g (t : Trap) : (s.enterError t).g = s.g := rfl
@[simp] theorem enterError_w (t : Trap) : (s.enterError t).w = s.w := rfl
@[simp] theorem enterError_psr (t : Trap) : (s.enterError t).psr = s.psr := rfl
@[simp] theorem enterError_wim (t : Trap) : (s.enterError t).wim = s.wim := rfl
@[simp] theorem enterError_y (t : Trap) : (s.enterError t).y = s.y := rfl
@[simp] theorem enterError_f (t : Trap) : (s.enterError t).f = s.f := rfl
@[simp] theorem enterError_fsr (t : Trap) : (s.enterError t).fsr = s.fsr := rfl
@[simp] theorem enterError_fq (t : Trap) : (s.enterError t).fq = s.fq := rfl
@[simp] theorem enterError_fpuMode (t : Trap) : (s.enterError t).fpuMode = s.fpuMode := rfl
@[simp] theorem enterError_cp (t : Trap) : (s.enterError t).cp = s.cp := rfl
@[simp] theorem enterError_mem (t : Trap) : (s.enterError t).mem = s.mem := rfl
@[simp] theorem enterError_psrWrite (t : Trap) : (s.enterError t).psrWrite = s.psrWrite := rfl
@[simp] theorem enterError_wimWrite (t : Trap) : (s.enterError t).wimWrite = s.wimWrite := rfl
@[simp] theorem enterError_tbrWrite (t : Trap) : (s.enterError t).tbrWrite = s.tbrWrite := rfl
@[simp] theorem enterError_yWrite (t : Trap) : (s.enterError t).yWrite = s.yWrite := rfl
@[simp] theorem enterError_prev (t : Trap) : (s.enterError t).prev = s.prev := rfl
@[simp] theorem enterError_pausedDelays (t : Trap) : (s.enterError t).pausedDelays = s.pausedDelays := rfl
@[simp] theorem enterError_stale (t : Trap) : (s.enterError t).stale = s.stale := rfl
@[simp] theorem enterError_platform (t : Trap) : (s.enterError t).platform = s.platform := rfl
@[simp] theorem enterError_inputs (t : Trap) : (s.enterError t).inputs = s.inputs := rfl
@[simp] theorem enterError_tbr (t : Trap) : (s.enterError t).tbr = tbrWord (tbaOf s.tbr) t.tt := rfl
@[simp] theorem enterError_errorMode (t : Trap) : (s.enterError t).errorMode = true := rfl

/-! `State.trap` changes pc, npc, g, w, psr, tbr, prev, pausedDelays, psrWrite, wimWrite, tbrWrite, yWrite, draws, errorMode only. -/

@[simp] theorem trap_wim (t : Trap) : (s.trap t).wim = s.wim := by unfold State.trap; split <;> simp
@[simp] theorem trap_y (t : Trap) : (s.trap t).y = s.y := by unfold State.trap; split <;> simp
@[simp] theorem trap_f (t : Trap) : (s.trap t).f = s.f := by unfold State.trap; split <;> simp
@[simp] theorem trap_fsr (t : Trap) : (s.trap t).fsr = s.fsr := by unfold State.trap; split <;> simp
@[simp] theorem trap_fq (t : Trap) : (s.trap t).fq = s.fq := by unfold State.trap; split <;> simp
@[simp] theorem trap_fpuMode (t : Trap) : (s.trap t).fpuMode = s.fpuMode := by unfold State.trap; split <;> simp
@[simp] theorem trap_cp (t : Trap) : (s.trap t).cp = s.cp := by unfold State.trap; split <;> simp
@[simp] theorem trap_mem (t : Trap) : (s.trap t).mem = s.mem := by unfold State.trap; split <;> simp
@[simp] theorem trap_stale (t : Trap) : (s.trap t).stale = s.stale := by unfold State.trap; split <;> simp
@[simp] theorem trap_platform (t : Trap) : (s.trap t).platform = s.platform := by unfold State.trap; split <;> simp
@[simp] theorem trap_inputs (t : Trap) : (s.trap t).inputs = s.inputs := by unfold State.trap; split <;> simp

/-! `State.fpFail` changes pc, npc, fsr, fq, fpuMode, prev, psrWrite, wimWrite, tbrWrite, yWrite, draws only. -/

@[simp] theorem fpFail_g (x : Word) (n : BitVec 3) : (s.fpFail x n).g = s.g := rfl
@[simp] theorem fpFail_w (x : Word) (n : BitVec 3) : (s.fpFail x n).w = s.w := rfl
@[simp] theorem fpFail_psr (x : Word) (n : BitVec 3) : (s.fpFail x n).psr = s.psr := rfl
@[simp] theorem fpFail_wim (x : Word) (n : BitVec 3) : (s.fpFail x n).wim = s.wim := rfl
@[simp] theorem fpFail_tbr (x : Word) (n : BitVec 3) : (s.fpFail x n).tbr = s.tbr := rfl
@[simp] theorem fpFail_y (x : Word) (n : BitVec 3) : (s.fpFail x n).y = s.y := rfl
@[simp] theorem fpFail_f (x : Word) (n : BitVec 3) : (s.fpFail x n).f = s.f := rfl
@[simp] theorem fpFail_cp (x : Word) (n : BitVec 3) : (s.fpFail x n).cp = s.cp := rfl
@[simp] theorem fpFail_mem (x : Word) (n : BitVec 3) : (s.fpFail x n).mem = s.mem := rfl
@[simp] theorem fpFail_errorMode (x : Word) (n : BitVec 3) : (s.fpFail x n).errorMode = s.errorMode := rfl
@[simp] theorem fpFail_pausedDelays (x : Word) (n : BitVec 3) : (s.fpFail x n).pausedDelays = s.pausedDelays := rfl
@[simp] theorem fpFail_stale (x : Word) (n : BitVec 3) : (s.fpFail x n).stale = s.stale := rfl
@[simp] theorem fpFail_platform (x : Word) (n : BitVec 3) : (s.fpFail x n).platform = s.platform := rfl
@[simp] theorem fpFail_inputs (x : Word) (n : BitVec 3) : (s.fpFail x n).inputs = s.inputs := rfl
@[simp] theorem fpFail_fq (x : Word) (n : BitVec 3) : (s.fpFail x n).fq = [⟨s.pc, x⟩] := rfl
@[simp] theorem fpFail_fpuMode (x : Word) (n : BitVec 3) : (s.fpFail x n).fpuMode = .exceptionPending := rfl
@[simp] theorem fpFail_fsr (x : Word) (n : BitVec 3) : (s.fpFail x n).fsr = { s.fsr with ftt := n, qne := true } := rfl

/-! `State.fpDone` changes fsr only. -/

@[simp] theorem fpDone_pc (e : BitVec 5) : (s.fpDone e).pc = s.pc := rfl
@[simp] theorem fpDone_npc (e : BitVec 5) : (s.fpDone e).npc = s.npc := rfl
@[simp] theorem fpDone_g (e : BitVec 5) : (s.fpDone e).g = s.g := rfl
@[simp] theorem fpDone_w (e : BitVec 5) : (s.fpDone e).w = s.w := rfl
@[simp] theorem fpDone_psr (e : BitVec 5) : (s.fpDone e).psr = s.psr := rfl
@[simp] theorem fpDone_wim (e : BitVec 5) : (s.fpDone e).wim = s.wim := rfl
@[simp] theorem fpDone_tbr (e : BitVec 5) : (s.fpDone e).tbr = s.tbr := rfl
@[simp] theorem fpDone_y (e : BitVec 5) : (s.fpDone e).y = s.y := rfl
@[simp] theorem fpDone_f (e : BitVec 5) : (s.fpDone e).f = s.f := rfl
@[simp] theorem fpDone_fq (e : BitVec 5) : (s.fpDone e).fq = s.fq := rfl
@[simp] theorem fpDone_fpuMode (e : BitVec 5) : (s.fpDone e).fpuMode = s.fpuMode := rfl
@[simp] theorem fpDone_cp (e : BitVec 5) : (s.fpDone e).cp = s.cp := rfl
@[simp] theorem fpDone_mem (e : BitVec 5) : (s.fpDone e).mem = s.mem := rfl
@[simp] theorem fpDone_errorMode (e : BitVec 5) : (s.fpDone e).errorMode = s.errorMode := rfl
@[simp] theorem fpDone_psrWrite (e : BitVec 5) : (s.fpDone e).psrWrite = s.psrWrite := rfl
@[simp] theorem fpDone_wimWrite (e : BitVec 5) : (s.fpDone e).wimWrite = s.wimWrite := rfl
@[simp] theorem fpDone_tbrWrite (e : BitVec 5) : (s.fpDone e).tbrWrite = s.tbrWrite := rfl
@[simp] theorem fpDone_yWrite (e : BitVec 5) : (s.fpDone e).yWrite = s.yWrite := rfl
@[simp] theorem fpDone_prev (e : BitVec 5) : (s.fpDone e).prev = s.prev := rfl
@[simp] theorem fpDone_pausedDelays (e : BitVec 5) : (s.fpDone e).pausedDelays = s.pausedDelays := rfl
@[simp] theorem fpDone_stale (e : BitVec 5) : (s.fpDone e).stale = s.stale := rfl
@[simp] theorem fpDone_platform (e : BitVec 5) : (s.fpDone e).platform = s.platform := rfl
@[simp] theorem fpDone_inputs (e : BitVec 5) : (s.fpDone e).inputs = s.inputs := rfl
@[simp] theorem fpDone_draws (e : BitVec 5) : (s.fpDone e).draws = s.draws := rfl
@[simp] theorem fpDone_fsr (e : BitVec 5) : (s.fpDone e).fsr = { s.fsr with cexc := e, aexc := s.fsr.aexc ||| e, ftt := 0 } := rfl

/-! `State.sequenceError` changes fsr only. -/

@[simp] theorem sequenceError_pc : (s.sequenceError).pc = s.pc := rfl
@[simp] theorem sequenceError_npc : (s.sequenceError).npc = s.npc := rfl
@[simp] theorem sequenceError_g : (s.sequenceError).g = s.g := rfl
@[simp] theorem sequenceError_w : (s.sequenceError).w = s.w := rfl
@[simp] theorem sequenceError_psr : (s.sequenceError).psr = s.psr := rfl
@[simp] theorem sequenceError_wim : (s.sequenceError).wim = s.wim := rfl
@[simp] theorem sequenceError_tbr : (s.sequenceError).tbr = s.tbr := rfl
@[simp] theorem sequenceError_y : (s.sequenceError).y = s.y := rfl
@[simp] theorem sequenceError_f : (s.sequenceError).f = s.f := rfl
@[simp] theorem sequenceError_fq : (s.sequenceError).fq = s.fq := rfl
@[simp] theorem sequenceError_fpuMode : (s.sequenceError).fpuMode = s.fpuMode := rfl
@[simp] theorem sequenceError_cp : (s.sequenceError).cp = s.cp := rfl
@[simp] theorem sequenceError_mem : (s.sequenceError).mem = s.mem := rfl
@[simp] theorem sequenceError_errorMode : (s.sequenceError).errorMode = s.errorMode := rfl
@[simp] theorem sequenceError_psrWrite : (s.sequenceError).psrWrite = s.psrWrite := rfl
@[simp] theorem sequenceError_wimWrite : (s.sequenceError).wimWrite = s.wimWrite := rfl
@[simp] theorem sequenceError_tbrWrite : (s.sequenceError).tbrWrite = s.tbrWrite := rfl
@[simp] theorem sequenceError_yWrite : (s.sequenceError).yWrite = s.yWrite := rfl
@[simp] theorem sequenceError_prev : (s.sequenceError).prev = s.prev := rfl
@[simp] theorem sequenceError_pausedDelays : (s.sequenceError).pausedDelays = s.pausedDelays := rfl
@[simp] theorem sequenceError_stale : (s.sequenceError).stale = s.stale := rfl
@[simp] theorem sequenceError_platform : (s.sequenceError).platform = s.platform := rfl
@[simp] theorem sequenceError_inputs : (s.sequenceError).inputs = s.inputs := rfl
@[simp] theorem sequenceError_draws : (s.sequenceError).draws = s.draws := rfl
@[simp] theorem sequenceError_fsr : s.sequenceError.fsr = { s.fsr with ftt := 4 } := rfl

/-! `State.popFq` changes fq, fsr, fpuMode only. -/

@[simp] theorem popFq_pc : (s.popFq).pc = s.pc := by unfold State.popFq; split <;> [(split <;> rfl); rfl]
@[simp] theorem popFq_npc : (s.popFq).npc = s.npc := by unfold State.popFq; split <;> [(split <;> rfl); rfl]
@[simp] theorem popFq_g : (s.popFq).g = s.g := by unfold State.popFq; split <;> [(split <;> rfl); rfl]
@[simp] theorem popFq_w : (s.popFq).w = s.w := by unfold State.popFq; split <;> [(split <;> rfl); rfl]
@[simp] theorem popFq_psr : (s.popFq).psr = s.psr := by unfold State.popFq; split <;> [(split <;> rfl); rfl]
@[simp] theorem popFq_wim : (s.popFq).wim = s.wim := by unfold State.popFq; split <;> [(split <;> rfl); rfl]
@[simp] theorem popFq_tbr : (s.popFq).tbr = s.tbr := by unfold State.popFq; split <;> [(split <;> rfl); rfl]
@[simp] theorem popFq_y : (s.popFq).y = s.y := by unfold State.popFq; split <;> [(split <;> rfl); rfl]
@[simp] theorem popFq_f : (s.popFq).f = s.f := by unfold State.popFq; split <;> [(split <;> rfl); rfl]
@[simp] theorem popFq_cp : (s.popFq).cp = s.cp := by unfold State.popFq; split <;> [(split <;> rfl); rfl]
@[simp] theorem popFq_mem : (s.popFq).mem = s.mem := by unfold State.popFq; split <;> [(split <;> rfl); rfl]
@[simp] theorem popFq_errorMode : (s.popFq).errorMode = s.errorMode := by unfold State.popFq; split <;> [(split <;> rfl); rfl]
@[simp] theorem popFq_psrWrite : (s.popFq).psrWrite = s.psrWrite := by unfold State.popFq; split <;> [(split <;> rfl); rfl]
@[simp] theorem popFq_wimWrite : (s.popFq).wimWrite = s.wimWrite := by unfold State.popFq; split <;> [(split <;> rfl); rfl]
@[simp] theorem popFq_tbrWrite : (s.popFq).tbrWrite = s.tbrWrite := by unfold State.popFq; split <;> [(split <;> rfl); rfl]
@[simp] theorem popFq_yWrite : (s.popFq).yWrite = s.yWrite := by unfold State.popFq; split <;> [(split <;> rfl); rfl]
@[simp] theorem popFq_prev : (s.popFq).prev = s.prev := by unfold State.popFq; split <;> [(split <;> rfl); rfl]
@[simp] theorem popFq_pausedDelays : (s.popFq).pausedDelays = s.pausedDelays := by unfold State.popFq; split <;> [(split <;> rfl); rfl]
@[simp] theorem popFq_stale : (s.popFq).stale = s.stale := by unfold State.popFq; split <;> [(split <;> rfl); rfl]
@[simp] theorem popFq_platform : (s.popFq).platform = s.platform := by unfold State.popFq; split <;> [(split <;> rfl); rfl]
@[simp] theorem popFq_inputs : (s.popFq).inputs = s.inputs := by unfold State.popFq; split <;> [(split <;> rfl); rfl]
@[simp] theorem popFq_draws : (s.popFq).draws = s.draws := by unfold State.popFq; split <;> [(split <;> rfl); rfl]

/-! `State.loadCsr` changes cp only. -/

@[simp] theorem loadCsr_pc (v : Word) : (s.loadCsr v).pc = s.pc := rfl
@[simp] theorem loadCsr_npc (v : Word) : (s.loadCsr v).npc = s.npc := rfl
@[simp] theorem loadCsr_g (v : Word) : (s.loadCsr v).g = s.g := rfl
@[simp] theorem loadCsr_w (v : Word) : (s.loadCsr v).w = s.w := rfl
@[simp] theorem loadCsr_psr (v : Word) : (s.loadCsr v).psr = s.psr := rfl
@[simp] theorem loadCsr_wim (v : Word) : (s.loadCsr v).wim = s.wim := rfl
@[simp] theorem loadCsr_tbr (v : Word) : (s.loadCsr v).tbr = s.tbr := rfl
@[simp] theorem loadCsr_y (v : Word) : (s.loadCsr v).y = s.y := rfl
@[simp] theorem loadCsr_f (v : Word) : (s.loadCsr v).f = s.f := rfl
@[simp] theorem loadCsr_fsr (v : Word) : (s.loadCsr v).fsr = s.fsr := rfl
@[simp] theorem loadCsr_fq (v : Word) : (s.loadCsr v).fq = s.fq := rfl
@[simp] theorem loadCsr_fpuMode (v : Word) : (s.loadCsr v).fpuMode = s.fpuMode := rfl
@[simp] theorem loadCsr_mem (v : Word) : (s.loadCsr v).mem = s.mem := rfl
@[simp] theorem loadCsr_errorMode (v : Word) : (s.loadCsr v).errorMode = s.errorMode := rfl
@[simp] theorem loadCsr_psrWrite (v : Word) : (s.loadCsr v).psrWrite = s.psrWrite := rfl
@[simp] theorem loadCsr_wimWrite (v : Word) : (s.loadCsr v).wimWrite = s.wimWrite := rfl
@[simp] theorem loadCsr_tbrWrite (v : Word) : (s.loadCsr v).tbrWrite = s.tbrWrite := rfl
@[simp] theorem loadCsr_yWrite (v : Word) : (s.loadCsr v).yWrite = s.yWrite := rfl
@[simp] theorem loadCsr_prev (v : Word) : (s.loadCsr v).prev = s.prev := rfl
@[simp] theorem loadCsr_pausedDelays (v : Word) : (s.loadCsr v).pausedDelays = s.pausedDelays := rfl
@[simp] theorem loadCsr_stale (v : Word) : (s.loadCsr v).stale = s.stale := rfl
@[simp] theorem loadCsr_platform (v : Word) : (s.loadCsr v).platform = s.platform := rfl
@[simp] theorem loadCsr_inputs (v : Word) : (s.loadCsr v).inputs = s.inputs := rfl
@[simp] theorem loadCsr_draws (v : Word) : (s.loadCsr v).draws = s.draws := rfl

/-! `State.popCq` changes cp only. -/

@[simp] theorem popCq_pc : (s.popCq).pc = s.pc := by unfold State.popCq; split <;> rfl
@[simp] theorem popCq_npc : (s.popCq).npc = s.npc := by unfold State.popCq; split <;> rfl
@[simp] theorem popCq_g : (s.popCq).g = s.g := by unfold State.popCq; split <;> rfl
@[simp] theorem popCq_w : (s.popCq).w = s.w := by unfold State.popCq; split <;> rfl
@[simp] theorem popCq_psr : (s.popCq).psr = s.psr := by unfold State.popCq; split <;> rfl
@[simp] theorem popCq_wim : (s.popCq).wim = s.wim := by unfold State.popCq; split <;> rfl
@[simp] theorem popCq_tbr : (s.popCq).tbr = s.tbr := by unfold State.popCq; split <;> rfl
@[simp] theorem popCq_y : (s.popCq).y = s.y := by unfold State.popCq; split <;> rfl
@[simp] theorem popCq_f : (s.popCq).f = s.f := by unfold State.popCq; split <;> rfl
@[simp] theorem popCq_fsr : (s.popCq).fsr = s.fsr := by unfold State.popCq; split <;> rfl
@[simp] theorem popCq_fq : (s.popCq).fq = s.fq := by unfold State.popCq; split <;> rfl
@[simp] theorem popCq_fpuMode : (s.popCq).fpuMode = s.fpuMode := by unfold State.popCq; split <;> rfl
@[simp] theorem popCq_mem : (s.popCq).mem = s.mem := by unfold State.popCq; split <;> rfl
@[simp] theorem popCq_errorMode : (s.popCq).errorMode = s.errorMode := by unfold State.popCq; split <;> rfl
@[simp] theorem popCq_psrWrite : (s.popCq).psrWrite = s.psrWrite := by unfold State.popCq; split <;> rfl
@[simp] theorem popCq_wimWrite : (s.popCq).wimWrite = s.wimWrite := by unfold State.popCq; split <;> rfl
@[simp] theorem popCq_tbrWrite : (s.popCq).tbrWrite = s.tbrWrite := by unfold State.popCq; split <;> rfl
@[simp] theorem popCq_yWrite : (s.popCq).yWrite = s.yWrite := by unfold State.popCq; split <;> rfl
@[simp] theorem popCq_prev : (s.popCq).prev = s.prev := by unfold State.popCq; split <;> rfl
@[simp] theorem popCq_pausedDelays : (s.popCq).pausedDelays = s.pausedDelays := by unfold State.popCq; split <;> rfl
@[simp] theorem popCq_stale : (s.popCq).stale = s.stale := by unfold State.popCq; split <;> rfl
@[simp] theorem popCq_platform : (s.popCq).platform = s.platform := by unfold State.popCq; split <;> rfl
@[simp] theorem popCq_inputs : (s.popCq).inputs = s.inputs := by unfold State.popCq; split <;> rfl
@[simp] theorem popCq_draws : (s.popCq).draws = s.draws := by unfold State.popCq; split <;> rfl

/-! `State.cpTrapped` changes cp only. -/

@[simp] theorem cpTrapped_pc (c : Coprocessor) : (s.cpTrapped c).pc = s.pc := by unfold State.cpTrapped; split <;> rfl
@[simp] theorem cpTrapped_npc (c : Coprocessor) : (s.cpTrapped c).npc = s.npc := by unfold State.cpTrapped; split <;> rfl
@[simp] theorem cpTrapped_g (c : Coprocessor) : (s.cpTrapped c).g = s.g := by unfold State.cpTrapped; split <;> rfl
@[simp] theorem cpTrapped_w (c : Coprocessor) : (s.cpTrapped c).w = s.w := by unfold State.cpTrapped; split <;> rfl
@[simp] theorem cpTrapped_psr (c : Coprocessor) : (s.cpTrapped c).psr = s.psr := by unfold State.cpTrapped; split <;> rfl
@[simp] theorem cpTrapped_wim (c : Coprocessor) : (s.cpTrapped c).wim = s.wim := by unfold State.cpTrapped; split <;> rfl
@[simp] theorem cpTrapped_tbr (c : Coprocessor) : (s.cpTrapped c).tbr = s.tbr := by unfold State.cpTrapped; split <;> rfl
@[simp] theorem cpTrapped_y (c : Coprocessor) : (s.cpTrapped c).y = s.y := by unfold State.cpTrapped; split <;> rfl
@[simp] theorem cpTrapped_f (c : Coprocessor) : (s.cpTrapped c).f = s.f := by unfold State.cpTrapped; split <;> rfl
@[simp] theorem cpTrapped_fsr (c : Coprocessor) : (s.cpTrapped c).fsr = s.fsr := by unfold State.cpTrapped; split <;> rfl
@[simp] theorem cpTrapped_fq (c : Coprocessor) : (s.cpTrapped c).fq = s.fq := by unfold State.cpTrapped; split <;> rfl
@[simp] theorem cpTrapped_fpuMode (c : Coprocessor) : (s.cpTrapped c).fpuMode = s.fpuMode := by unfold State.cpTrapped; split <;> rfl
@[simp] theorem cpTrapped_mem (c : Coprocessor) : (s.cpTrapped c).mem = s.mem := by unfold State.cpTrapped; split <;> rfl
@[simp] theorem cpTrapped_errorMode (c : Coprocessor) : (s.cpTrapped c).errorMode = s.errorMode := by unfold State.cpTrapped; split <;> rfl
@[simp] theorem cpTrapped_psrWrite (c : Coprocessor) : (s.cpTrapped c).psrWrite = s.psrWrite := by unfold State.cpTrapped; split <;> rfl
@[simp] theorem cpTrapped_wimWrite (c : Coprocessor) : (s.cpTrapped c).wimWrite = s.wimWrite := by unfold State.cpTrapped; split <;> rfl
@[simp] theorem cpTrapped_tbrWrite (c : Coprocessor) : (s.cpTrapped c).tbrWrite = s.tbrWrite := by unfold State.cpTrapped; split <;> rfl
@[simp] theorem cpTrapped_yWrite (c : Coprocessor) : (s.cpTrapped c).yWrite = s.yWrite := by unfold State.cpTrapped; split <;> rfl
@[simp] theorem cpTrapped_prev (c : Coprocessor) : (s.cpTrapped c).prev = s.prev := by unfold State.cpTrapped; split <;> rfl
@[simp] theorem cpTrapped_pausedDelays (c : Coprocessor) : (s.cpTrapped c).pausedDelays = s.pausedDelays := by unfold State.cpTrapped; split <;> rfl
@[simp] theorem cpTrapped_stale (c : Coprocessor) : (s.cpTrapped c).stale = s.stale := by unfold State.cpTrapped; split <;> rfl
@[simp] theorem cpTrapped_platform (c : Coprocessor) : (s.cpTrapped c).platform = s.platform := by unfold State.cpTrapped; split <;> rfl
@[simp] theorem cpTrapped_inputs (c : Coprocessor) : (s.cpTrapped c).inputs = s.inputs := by unfold State.cpTrapped; split <;> rfl
@[simp] theorem cpTrapped_draws (c : Coprocessor) : (s.cpTrapped c).draws = s.draws := by unfold State.cpTrapped; split <;> rfl

/-! `State.returnFromTrap` changes pc, npc, psr, prev, pausedDelays, psrWrite, wimWrite, tbrWrite, yWrite, draws only. -/

@[simp] theorem returnFromTrap_g (t : Word) (c : BitVec 5) : (s.returnFromTrap t c).g = s.g := rfl
@[simp] theorem returnFromTrap_w (t : Word) (c : BitVec 5) : (s.returnFromTrap t c).w = s.w := rfl
@[simp] theorem returnFromTrap_wim (t : Word) (c : BitVec 5) : (s.returnFromTrap t c).wim = s.wim := rfl
@[simp] theorem returnFromTrap_tbr (t : Word) (c : BitVec 5) : (s.returnFromTrap t c).tbr = s.tbr := rfl
@[simp] theorem returnFromTrap_y (t : Word) (c : BitVec 5) : (s.returnFromTrap t c).y = s.y := rfl
@[simp] theorem returnFromTrap_f (t : Word) (c : BitVec 5) : (s.returnFromTrap t c).f = s.f := rfl
@[simp] theorem returnFromTrap_fsr (t : Word) (c : BitVec 5) : (s.returnFromTrap t c).fsr = s.fsr := rfl
@[simp] theorem returnFromTrap_fq (t : Word) (c : BitVec 5) : (s.returnFromTrap t c).fq = s.fq := rfl
@[simp] theorem returnFromTrap_fpuMode (t : Word) (c : BitVec 5) : (s.returnFromTrap t c).fpuMode = s.fpuMode := rfl
@[simp] theorem returnFromTrap_cp (t : Word) (c : BitVec 5) : (s.returnFromTrap t c).cp = s.cp := rfl
@[simp] theorem returnFromTrap_mem (t : Word) (c : BitVec 5) : (s.returnFromTrap t c).mem = s.mem := rfl
@[simp] theorem returnFromTrap_errorMode (t : Word) (c : BitVec 5) : (s.returnFromTrap t c).errorMode = s.errorMode := rfl
@[simp] theorem returnFromTrap_stale (t : Word) (c : BitVec 5) : (s.returnFromTrap t c).stale = s.stale := rfl
@[simp] theorem returnFromTrap_platform (t : Word) (c : BitVec 5) : (s.returnFromTrap t c).platform = s.platform := rfl
@[simp] theorem returnFromTrap_inputs (t : Word) (c : BitVec 5) : (s.returnFromTrap t c).inputs = s.inputs := rfl
@[simp] theorem returnFromTrap_pausedDelays (t : Word) (c : BitVec 5) : (s.returnFromTrap t c).pausedDelays = s.pausedDelays.filter fun d => decide (d ≠ ⟨s.npc, t⟩) := rfl
@[simp] theorem returnFromTrap_prev (t : Word) (c : BitVec 5) : (s.returnFromTrap t c).prev = if (⟨s.npc, t⟩ : DelaySlot) ∈ s.pausedDelays then .condBranch else .other := rfl
@[simp] theorem returnFromTrap_pc (t : Word) (c : BitVec 5) : (s.returnFromTrap t c).pc = s.npc := rfl
@[simp] theorem returnFromTrap_npc (t : Word) (c : BitVec 5) : (s.returnFromTrap t c).npc = t := rfl
@[simp] theorem returnFromTrap_psr (t : Word) (c : BitVec 5) : (s.returnFromTrap t c).psr = { s.psr with et := true, cwp := c, s := s.psView } := rfl

/-! `State.writePsr` changes pc, npc, psr, prev, psrWrite, wimWrite, tbrWrite, yWrite, draws only. -/

@[simp] theorem writePsr_g (v : Psr) : (s.writePsr v).g = s.g := rfl
@[simp] theorem writePsr_w (v : Psr) : (s.writePsr v).w = s.w := rfl
@[simp] theorem writePsr_wim (v : Psr) : (s.writePsr v).wim = s.wim := rfl
@[simp] theorem writePsr_tbr (v : Psr) : (s.writePsr v).tbr = s.tbr := rfl
@[simp] theorem writePsr_y (v : Psr) : (s.writePsr v).y = s.y := rfl
@[simp] theorem writePsr_f (v : Psr) : (s.writePsr v).f = s.f := rfl
@[simp] theorem writePsr_fsr (v : Psr) : (s.writePsr v).fsr = s.fsr := rfl
@[simp] theorem writePsr_fq (v : Psr) : (s.writePsr v).fq = s.fq := rfl
@[simp] theorem writePsr_fpuMode (v : Psr) : (s.writePsr v).fpuMode = s.fpuMode := rfl
@[simp] theorem writePsr_cp (v : Psr) : (s.writePsr v).cp = s.cp := rfl
@[simp] theorem writePsr_mem (v : Psr) : (s.writePsr v).mem = s.mem := rfl
@[simp] theorem writePsr_errorMode (v : Psr) : (s.writePsr v).errorMode = s.errorMode := rfl
@[simp] theorem writePsr_pausedDelays (v : Psr) : (s.writePsr v).pausedDelays = s.pausedDelays := rfl
@[simp] theorem writePsr_stale (v : Psr) : (s.writePsr v).stale = s.stale := rfl
@[simp] theorem writePsr_platform (v : Psr) : (s.writePsr v).platform = s.platform := rfl
@[simp] theorem writePsr_inputs (v : Psr) : (s.writePsr v).inputs = s.inputs := rfl
@[simp] theorem writePsr_pc (v : Psr) : (s.writePsr v).pc = s.npc := rfl
@[simp] theorem writePsr_npc (v : Psr) : (s.writePsr v).npc = s.npc + 4 := rfl
@[simp] theorem writePsr_psr (v : Psr) : (s.writePsr v).psr = v := rfl

/-! `State.writeWim` changes pc, npc, wim, prev, psrWrite, wimWrite, tbrWrite, yWrite, draws only. -/

@[simp] theorem writeWim_g (v : Word) : (s.writeWim v).g = s.g := rfl
@[simp] theorem writeWim_w (v : Word) : (s.writeWim v).w = s.w := rfl
@[simp] theorem writeWim_psr (v : Word) : (s.writeWim v).psr = s.psr := rfl
@[simp] theorem writeWim_tbr (v : Word) : (s.writeWim v).tbr = s.tbr := rfl
@[simp] theorem writeWim_y (v : Word) : (s.writeWim v).y = s.y := rfl
@[simp] theorem writeWim_f (v : Word) : (s.writeWim v).f = s.f := rfl
@[simp] theorem writeWim_fsr (v : Word) : (s.writeWim v).fsr = s.fsr := rfl
@[simp] theorem writeWim_fq (v : Word) : (s.writeWim v).fq = s.fq := rfl
@[simp] theorem writeWim_fpuMode (v : Word) : (s.writeWim v).fpuMode = s.fpuMode := rfl
@[simp] theorem writeWim_cp (v : Word) : (s.writeWim v).cp = s.cp := rfl
@[simp] theorem writeWim_mem (v : Word) : (s.writeWim v).mem = s.mem := rfl
@[simp] theorem writeWim_errorMode (v : Word) : (s.writeWim v).errorMode = s.errorMode := rfl
@[simp] theorem writeWim_pausedDelays (v : Word) : (s.writeWim v).pausedDelays = s.pausedDelays := rfl
@[simp] theorem writeWim_stale (v : Word) : (s.writeWim v).stale = s.stale := rfl
@[simp] theorem writeWim_platform (v : Word) : (s.writeWim v).platform = s.platform := rfl
@[simp] theorem writeWim_inputs (v : Word) : (s.writeWim v).inputs = s.inputs := rfl
@[simp] theorem writeWim_pc (v : Word) : (s.writeWim v).pc = s.npc := rfl
@[simp] theorem writeWim_npc (v : Word) : (s.writeWim v).npc = s.npc + 4 := rfl
@[simp] theorem writeWim_wim (v : Word) : (s.writeWim v).wim = v := rfl

/-! `State.writeTbr` changes pc, npc, tbr, prev, psrWrite, wimWrite, tbrWrite, yWrite, draws only. -/

@[simp] theorem writeTbr_g (v : Word) : (s.writeTbr v).g = s.g := rfl
@[simp] theorem writeTbr_w (v : Word) : (s.writeTbr v).w = s.w := rfl
@[simp] theorem writeTbr_psr (v : Word) : (s.writeTbr v).psr = s.psr := rfl
@[simp] theorem writeTbr_wim (v : Word) : (s.writeTbr v).wim = s.wim := rfl
@[simp] theorem writeTbr_y (v : Word) : (s.writeTbr v).y = s.y := rfl
@[simp] theorem writeTbr_f (v : Word) : (s.writeTbr v).f = s.f := rfl
@[simp] theorem writeTbr_fsr (v : Word) : (s.writeTbr v).fsr = s.fsr := rfl
@[simp] theorem writeTbr_fq (v : Word) : (s.writeTbr v).fq = s.fq := rfl
@[simp] theorem writeTbr_fpuMode (v : Word) : (s.writeTbr v).fpuMode = s.fpuMode := rfl
@[simp] theorem writeTbr_cp (v : Word) : (s.writeTbr v).cp = s.cp := rfl
@[simp] theorem writeTbr_mem (v : Word) : (s.writeTbr v).mem = s.mem := rfl
@[simp] theorem writeTbr_errorMode (v : Word) : (s.writeTbr v).errorMode = s.errorMode := rfl
@[simp] theorem writeTbr_pausedDelays (v : Word) : (s.writeTbr v).pausedDelays = s.pausedDelays := rfl
@[simp] theorem writeTbr_stale (v : Word) : (s.writeTbr v).stale = s.stale := rfl
@[simp] theorem writeTbr_platform (v : Word) : (s.writeTbr v).platform = s.platform := rfl
@[simp] theorem writeTbr_inputs (v : Word) : (s.writeTbr v).inputs = s.inputs := rfl
@[simp] theorem writeTbr_pc (v : Word) : (s.writeTbr v).pc = s.npc := rfl
@[simp] theorem writeTbr_npc (v : Word) : (s.writeTbr v).npc = s.npc + 4 := rfl
@[simp] theorem writeTbr_tbr (v : Word) : (s.writeTbr v).tbr = v := rfl

/-! `State.writeY` changes pc, npc, y, prev, psrWrite, wimWrite, tbrWrite, yWrite, draws only. -/

@[simp] theorem writeY_g (v : Word) : (s.writeY v).g = s.g := rfl
@[simp] theorem writeY_w (v : Word) : (s.writeY v).w = s.w := rfl
@[simp] theorem writeY_psr (v : Word) : (s.writeY v).psr = s.psr := rfl
@[simp] theorem writeY_wim (v : Word) : (s.writeY v).wim = s.wim := rfl
@[simp] theorem writeY_tbr (v : Word) : (s.writeY v).tbr = s.tbr := rfl
@[simp] theorem writeY_f (v : Word) : (s.writeY v).f = s.f := rfl
@[simp] theorem writeY_fsr (v : Word) : (s.writeY v).fsr = s.fsr := rfl
@[simp] theorem writeY_fq (v : Word) : (s.writeY v).fq = s.fq := rfl
@[simp] theorem writeY_fpuMode (v : Word) : (s.writeY v).fpuMode = s.fpuMode := rfl
@[simp] theorem writeY_cp (v : Word) : (s.writeY v).cp = s.cp := rfl
@[simp] theorem writeY_mem (v : Word) : (s.writeY v).mem = s.mem := rfl
@[simp] theorem writeY_errorMode (v : Word) : (s.writeY v).errorMode = s.errorMode := rfl
@[simp] theorem writeY_pausedDelays (v : Word) : (s.writeY v).pausedDelays = s.pausedDelays := rfl
@[simp] theorem writeY_stale (v : Word) : (s.writeY v).stale = s.stale := rfl
@[simp] theorem writeY_platform (v : Word) : (s.writeY v).platform = s.platform := rfl
@[simp] theorem writeY_inputs (v : Word) : (s.writeY v).inputs = s.inputs := rfl
@[simp] theorem writeY_pc (v : Word) : (s.writeY v).pc = s.npc := rfl
@[simp] theorem writeY_npc (v : Word) : (s.writeY v).npc = s.npc + 4 := rfl
@[simp] theorem writeY_y (v : Word) : (s.writeY v).y = v := rfl

/-! `State.writeSingle` changes f only. -/

@[simp] theorem writeSingle_pc (r : RegNum) (v : Rounded) : ((writeSingle r v s)).pc = s.pc := rfl
@[simp] theorem writeSingle_npc (r : RegNum) (v : Rounded) : ((writeSingle r v s)).npc = s.npc := rfl
@[simp] theorem writeSingle_g (r : RegNum) (v : Rounded) : ((writeSingle r v s)).g = s.g := rfl
@[simp] theorem writeSingle_w (r : RegNum) (v : Rounded) : ((writeSingle r v s)).w = s.w := rfl
@[simp] theorem writeSingle_psr (r : RegNum) (v : Rounded) : ((writeSingle r v s)).psr = s.psr := rfl
@[simp] theorem writeSingle_wim (r : RegNum) (v : Rounded) : ((writeSingle r v s)).wim = s.wim := rfl
@[simp] theorem writeSingle_tbr (r : RegNum) (v : Rounded) : ((writeSingle r v s)).tbr = s.tbr := rfl
@[simp] theorem writeSingle_y (r : RegNum) (v : Rounded) : ((writeSingle r v s)).y = s.y := rfl
@[simp] theorem writeSingle_fsr (r : RegNum) (v : Rounded) : ((writeSingle r v s)).fsr = s.fsr := rfl
@[simp] theorem writeSingle_fq (r : RegNum) (v : Rounded) : ((writeSingle r v s)).fq = s.fq := rfl
@[simp] theorem writeSingle_fpuMode (r : RegNum) (v : Rounded) : ((writeSingle r v s)).fpuMode = s.fpuMode := rfl
@[simp] theorem writeSingle_cp (r : RegNum) (v : Rounded) : ((writeSingle r v s)).cp = s.cp := rfl
@[simp] theorem writeSingle_mem (r : RegNum) (v : Rounded) : ((writeSingle r v s)).mem = s.mem := rfl
@[simp] theorem writeSingle_errorMode (r : RegNum) (v : Rounded) : ((writeSingle r v s)).errorMode = s.errorMode := rfl
@[simp] theorem writeSingle_psrWrite (r : RegNum) (v : Rounded) : ((writeSingle r v s)).psrWrite = s.psrWrite := rfl
@[simp] theorem writeSingle_wimWrite (r : RegNum) (v : Rounded) : ((writeSingle r v s)).wimWrite = s.wimWrite := rfl
@[simp] theorem writeSingle_tbrWrite (r : RegNum) (v : Rounded) : ((writeSingle r v s)).tbrWrite = s.tbrWrite := rfl
@[simp] theorem writeSingle_yWrite (r : RegNum) (v : Rounded) : ((writeSingle r v s)).yWrite = s.yWrite := rfl
@[simp] theorem writeSingle_prev (r : RegNum) (v : Rounded) : ((writeSingle r v s)).prev = s.prev := rfl
@[simp] theorem writeSingle_pausedDelays (r : RegNum) (v : Rounded) : ((writeSingle r v s)).pausedDelays = s.pausedDelays := rfl
@[simp] theorem writeSingle_stale (r : RegNum) (v : Rounded) : ((writeSingle r v s)).stale = s.stale := rfl
@[simp] theorem writeSingle_platform (r : RegNum) (v : Rounded) : ((writeSingle r v s)).platform = s.platform := rfl
@[simp] theorem writeSingle_inputs (r : RegNum) (v : Rounded) : ((writeSingle r v s)).inputs = s.inputs := rfl
@[simp] theorem writeSingle_draws (r : RegNum) (v : Rounded) : ((writeSingle r v s)).draws = s.draws := rfl

/-! `State.writeDouble` changes f only. -/

@[simp] theorem writeDouble_pc (r : RegNum) (v : Rounded) : ((writeDouble r v s)).pc = s.pc := by simp [writeDouble]
@[simp] theorem writeDouble_npc (r : RegNum) (v : Rounded) : ((writeDouble r v s)).npc = s.npc := by simp [writeDouble]
@[simp] theorem writeDouble_g (r : RegNum) (v : Rounded) : ((writeDouble r v s)).g = s.g := by simp [writeDouble]
@[simp] theorem writeDouble_w (r : RegNum) (v : Rounded) : ((writeDouble r v s)).w = s.w := by simp [writeDouble]
@[simp] theorem writeDouble_psr (r : RegNum) (v : Rounded) : ((writeDouble r v s)).psr = s.psr := by simp [writeDouble]
@[simp] theorem writeDouble_wim (r : RegNum) (v : Rounded) : ((writeDouble r v s)).wim = s.wim := by simp [writeDouble]
@[simp] theorem writeDouble_tbr (r : RegNum) (v : Rounded) : ((writeDouble r v s)).tbr = s.tbr := by simp [writeDouble]
@[simp] theorem writeDouble_y (r : RegNum) (v : Rounded) : ((writeDouble r v s)).y = s.y := by simp [writeDouble]
@[simp] theorem writeDouble_fsr (r : RegNum) (v : Rounded) : ((writeDouble r v s)).fsr = s.fsr := by simp [writeDouble]
@[simp] theorem writeDouble_fq (r : RegNum) (v : Rounded) : ((writeDouble r v s)).fq = s.fq := by simp [writeDouble]
@[simp] theorem writeDouble_fpuMode (r : RegNum) (v : Rounded) : ((writeDouble r v s)).fpuMode = s.fpuMode := by simp [writeDouble]
@[simp] theorem writeDouble_cp (r : RegNum) (v : Rounded) : ((writeDouble r v s)).cp = s.cp := by simp [writeDouble]
@[simp] theorem writeDouble_mem (r : RegNum) (v : Rounded) : ((writeDouble r v s)).mem = s.mem := by simp [writeDouble]
@[simp] theorem writeDouble_errorMode (r : RegNum) (v : Rounded) : ((writeDouble r v s)).errorMode = s.errorMode := by simp [writeDouble]
@[simp] theorem writeDouble_psrWrite (r : RegNum) (v : Rounded) : ((writeDouble r v s)).psrWrite = s.psrWrite := by simp [writeDouble]
@[simp] theorem writeDouble_wimWrite (r : RegNum) (v : Rounded) : ((writeDouble r v s)).wimWrite = s.wimWrite := by simp [writeDouble]
@[simp] theorem writeDouble_tbrWrite (r : RegNum) (v : Rounded) : ((writeDouble r v s)).tbrWrite = s.tbrWrite := by simp [writeDouble]
@[simp] theorem writeDouble_yWrite (r : RegNum) (v : Rounded) : ((writeDouble r v s)).yWrite = s.yWrite := by simp [writeDouble]
@[simp] theorem writeDouble_prev (r : RegNum) (v : Rounded) : ((writeDouble r v s)).prev = s.prev := by simp [writeDouble]
@[simp] theorem writeDouble_pausedDelays (r : RegNum) (v : Rounded) : ((writeDouble r v s)).pausedDelays = s.pausedDelays := by simp [writeDouble]
@[simp] theorem writeDouble_stale (r : RegNum) (v : Rounded) : ((writeDouble r v s)).stale = s.stale := by simp [writeDouble]
@[simp] theorem writeDouble_platform (r : RegNum) (v : Rounded) : ((writeDouble r v s)).platform = s.platform := by simp [writeDouble]
@[simp] theorem writeDouble_inputs (r : RegNum) (v : Rounded) : ((writeDouble r v s)).inputs = s.inputs := by simp [writeDouble]
@[simp] theorem writeDouble_draws (r : RegNum) (v : Rounded) : ((writeDouble r v s)).draws = s.draws := by simp [writeDouble]

/-! `State.writeFcc` changes fsr only. -/

@[simp] theorem writeFcc_pc (c : BitVec 2) : ((writeFcc c s)).pc = s.pc := rfl
@[simp] theorem writeFcc_npc (c : BitVec 2) : ((writeFcc c s)).npc = s.npc := rfl
@[simp] theorem writeFcc_g (c : BitVec 2) : ((writeFcc c s)).g = s.g := rfl
@[simp] theorem writeFcc_w (c : BitVec 2) : ((writeFcc c s)).w = s.w := rfl
@[simp] theorem writeFcc_psr (c : BitVec 2) : ((writeFcc c s)).psr = s.psr := rfl
@[simp] theorem writeFcc_wim (c : BitVec 2) : ((writeFcc c s)).wim = s.wim := rfl
@[simp] theorem writeFcc_tbr (c : BitVec 2) : ((writeFcc c s)).tbr = s.tbr := rfl
@[simp] theorem writeFcc_y (c : BitVec 2) : ((writeFcc c s)).y = s.y := rfl
@[simp] theorem writeFcc_f (c : BitVec 2) : ((writeFcc c s)).f = s.f := rfl
@[simp] theorem writeFcc_fq (c : BitVec 2) : ((writeFcc c s)).fq = s.fq := rfl
@[simp] theorem writeFcc_fpuMode (c : BitVec 2) : ((writeFcc c s)).fpuMode = s.fpuMode := rfl
@[simp] theorem writeFcc_cp (c : BitVec 2) : ((writeFcc c s)).cp = s.cp := rfl
@[simp] theorem writeFcc_mem (c : BitVec 2) : ((writeFcc c s)).mem = s.mem := rfl
@[simp] theorem writeFcc_errorMode (c : BitVec 2) : ((writeFcc c s)).errorMode = s.errorMode := rfl
@[simp] theorem writeFcc_psrWrite (c : BitVec 2) : ((writeFcc c s)).psrWrite = s.psrWrite := rfl
@[simp] theorem writeFcc_wimWrite (c : BitVec 2) : ((writeFcc c s)).wimWrite = s.wimWrite := rfl
@[simp] theorem writeFcc_tbrWrite (c : BitVec 2) : ((writeFcc c s)).tbrWrite = s.tbrWrite := rfl
@[simp] theorem writeFcc_yWrite (c : BitVec 2) : ((writeFcc c s)).yWrite = s.yWrite := rfl
@[simp] theorem writeFcc_prev (c : BitVec 2) : ((writeFcc c s)).prev = s.prev := rfl
@[simp] theorem writeFcc_pausedDelays (c : BitVec 2) : ((writeFcc c s)).pausedDelays = s.pausedDelays := rfl
@[simp] theorem writeFcc_stale (c : BitVec 2) : ((writeFcc c s)).stale = s.stale := rfl
@[simp] theorem writeFcc_platform (c : BitVec 2) : ((writeFcc c s)).platform = s.platform := rfl
@[simp] theorem writeFcc_inputs (c : BitVec 2) : ((writeFcc c s)).inputs = s.inputs := rfl
@[simp] theorem writeFcc_draws (c : BitVec 2) : ((writeFcc c s)).draws = s.draws := rfl
@[simp] theorem writeFcc_fsr (c : BitVec 2) : (writeFcc c s).fsr = { s.fsr with fcc := c } := rfl

/-! `State.takeFpException` changes pc, npc, g, w, psr, tbr, fpuMode, prev, pausedDelays, psrWrite, wimWrite, tbrWrite, yWrite, draws, errorMode only. -/

@[simp] theorem takeFpException_wim : (s.takeFpException).wim = s.wim := by unfold State.takeFpException; split <;> simp
@[simp] theorem takeFpException_y : (s.takeFpException).y = s.y := by unfold State.takeFpException; split <;> simp
@[simp] theorem takeFpException_f : (s.takeFpException).f = s.f := by unfold State.takeFpException; split <;> simp
@[simp] theorem takeFpException_fsr : (s.takeFpException).fsr = s.fsr := by unfold State.takeFpException; split <;> simp
@[simp] theorem takeFpException_fq : (s.takeFpException).fq = s.fq := by unfold State.takeFpException; split <;> simp
@[simp] theorem takeFpException_cp : (s.takeFpException).cp = s.cp := by unfold State.takeFpException; split <;> simp
@[simp] theorem takeFpException_mem : (s.takeFpException).mem = s.mem := by unfold State.takeFpException; split <;> simp
@[simp] theorem takeFpException_stale : (s.takeFpException).stale = s.stale := by unfold State.takeFpException; split <;> simp
@[simp] theorem takeFpException_platform : (s.takeFpException).platform = s.platform := by unfold State.takeFpException; split <;> simp
@[simp] theorem takeFpException_inputs : (s.takeFpException).inputs = s.inputs := by unfold State.takeFpException; split <;> simp

/-! `State.cpLoadTrapped` changes cp only. -/

@[simp] theorem cpLoadTrapped_pc : (s.cpLoadTrapped).pc = s.pc := by unfold State.cpLoadTrapped; split <;> simp
@[simp] theorem cpLoadTrapped_npc : (s.cpLoadTrapped).npc = s.npc := by unfold State.cpLoadTrapped; split <;> simp
@[simp] theorem cpLoadTrapped_g : (s.cpLoadTrapped).g = s.g := by unfold State.cpLoadTrapped; split <;> simp
@[simp] theorem cpLoadTrapped_w : (s.cpLoadTrapped).w = s.w := by unfold State.cpLoadTrapped; split <;> simp
@[simp] theorem cpLoadTrapped_psr : (s.cpLoadTrapped).psr = s.psr := by unfold State.cpLoadTrapped; split <;> simp
@[simp] theorem cpLoadTrapped_wim : (s.cpLoadTrapped).wim = s.wim := by unfold State.cpLoadTrapped; split <;> simp
@[simp] theorem cpLoadTrapped_tbr : (s.cpLoadTrapped).tbr = s.tbr := by unfold State.cpLoadTrapped; split <;> simp
@[simp] theorem cpLoadTrapped_y : (s.cpLoadTrapped).y = s.y := by unfold State.cpLoadTrapped; split <;> simp
@[simp] theorem cpLoadTrapped_f : (s.cpLoadTrapped).f = s.f := by unfold State.cpLoadTrapped; split <;> simp
@[simp] theorem cpLoadTrapped_fsr : (s.cpLoadTrapped).fsr = s.fsr := by unfold State.cpLoadTrapped; split <;> simp
@[simp] theorem cpLoadTrapped_fq : (s.cpLoadTrapped).fq = s.fq := by unfold State.cpLoadTrapped; split <;> simp
@[simp] theorem cpLoadTrapped_fpuMode : (s.cpLoadTrapped).fpuMode = s.fpuMode := by unfold State.cpLoadTrapped; split <;> simp
@[simp] theorem cpLoadTrapped_mem : (s.cpLoadTrapped).mem = s.mem := by unfold State.cpLoadTrapped; split <;> simp
@[simp] theorem cpLoadTrapped_errorMode : (s.cpLoadTrapped).errorMode = s.errorMode := by unfold State.cpLoadTrapped; split <;> simp
@[simp] theorem cpLoadTrapped_psrWrite : (s.cpLoadTrapped).psrWrite = s.psrWrite := by unfold State.cpLoadTrapped; split <;> simp
@[simp] theorem cpLoadTrapped_wimWrite : (s.cpLoadTrapped).wimWrite = s.wimWrite := by unfold State.cpLoadTrapped; split <;> simp
@[simp] theorem cpLoadTrapped_tbrWrite : (s.cpLoadTrapped).tbrWrite = s.tbrWrite := by unfold State.cpLoadTrapped; split <;> simp
@[simp] theorem cpLoadTrapped_yWrite : (s.cpLoadTrapped).yWrite = s.yWrite := by unfold State.cpLoadTrapped; split <;> simp
@[simp] theorem cpLoadTrapped_prev : (s.cpLoadTrapped).prev = s.prev := by unfold State.cpLoadTrapped; split <;> simp
@[simp] theorem cpLoadTrapped_pausedDelays : (s.cpLoadTrapped).pausedDelays = s.pausedDelays := by unfold State.cpLoadTrapped; split <;> simp
@[simp] theorem cpLoadTrapped_stale : (s.cpLoadTrapped).stale = s.stale := by unfold State.cpLoadTrapped; split <;> simp
@[simp] theorem cpLoadTrapped_platform : (s.cpLoadTrapped).platform = s.platform := by unfold State.cpLoadTrapped; split <;> simp
@[simp] theorem cpLoadTrapped_inputs : (s.cpLoadTrapped).inputs = s.inputs := by unfold State.cpLoadTrapped; split <;> simp
@[simp] theorem cpLoadTrapped_draws : (s.cpLoadTrapped).draws = s.draws := by unfold State.cpLoadTrapped; split <;> simp

/-! `State.cpAcknowledged` changes cp only. -/

@[simp] theorem cpAcknowledged_pc : (s.cpAcknowledged).pc = s.pc := by simp [State.cpAcknowledged]
@[simp] theorem cpAcknowledged_npc : (s.cpAcknowledged).npc = s.npc := by simp [State.cpAcknowledged]
@[simp] theorem cpAcknowledged_g : (s.cpAcknowledged).g = s.g := by simp [State.cpAcknowledged]
@[simp] theorem cpAcknowledged_w : (s.cpAcknowledged).w = s.w := by simp [State.cpAcknowledged]
@[simp] theorem cpAcknowledged_psr : (s.cpAcknowledged).psr = s.psr := by simp [State.cpAcknowledged]
@[simp] theorem cpAcknowledged_wim : (s.cpAcknowledged).wim = s.wim := by simp [State.cpAcknowledged]
@[simp] theorem cpAcknowledged_tbr : (s.cpAcknowledged).tbr = s.tbr := by simp [State.cpAcknowledged]
@[simp] theorem cpAcknowledged_y : (s.cpAcknowledged).y = s.y := by simp [State.cpAcknowledged]
@[simp] theorem cpAcknowledged_f : (s.cpAcknowledged).f = s.f := by simp [State.cpAcknowledged]
@[simp] theorem cpAcknowledged_fsr : (s.cpAcknowledged).fsr = s.fsr := by simp [State.cpAcknowledged]
@[simp] theorem cpAcknowledged_fq : (s.cpAcknowledged).fq = s.fq := by simp [State.cpAcknowledged]
@[simp] theorem cpAcknowledged_fpuMode : (s.cpAcknowledged).fpuMode = s.fpuMode := by simp [State.cpAcknowledged]
@[simp] theorem cpAcknowledged_mem : (s.cpAcknowledged).mem = s.mem := by simp [State.cpAcknowledged]
@[simp] theorem cpAcknowledged_errorMode : (s.cpAcknowledged).errorMode = s.errorMode := by simp [State.cpAcknowledged]
@[simp] theorem cpAcknowledged_psrWrite : (s.cpAcknowledged).psrWrite = s.psrWrite := by simp [State.cpAcknowledged]
@[simp] theorem cpAcknowledged_wimWrite : (s.cpAcknowledged).wimWrite = s.wimWrite := by simp [State.cpAcknowledged]
@[simp] theorem cpAcknowledged_tbrWrite : (s.cpAcknowledged).tbrWrite = s.tbrWrite := by simp [State.cpAcknowledged]
@[simp] theorem cpAcknowledged_yWrite : (s.cpAcknowledged).yWrite = s.yWrite := by simp [State.cpAcknowledged]
@[simp] theorem cpAcknowledged_prev : (s.cpAcknowledged).prev = s.prev := by simp [State.cpAcknowledged]
@[simp] theorem cpAcknowledged_pausedDelays : (s.cpAcknowledged).pausedDelays = s.pausedDelays := by simp [State.cpAcknowledged]
@[simp] theorem cpAcknowledged_stale : (s.cpAcknowledged).stale = s.stale := by simp [State.cpAcknowledged]
@[simp] theorem cpAcknowledged_platform : (s.cpAcknowledged).platform = s.platform := by simp [State.cpAcknowledged]
@[simp] theorem cpAcknowledged_inputs : (s.cpAcknowledged).inputs = s.inputs := by simp [State.cpAcknowledged]
@[simp] theorem cpAcknowledged_draws : (s.cpAcknowledged).draws = s.draws := by simp [State.cpAcknowledged]

/-! `State.sampled` changes inputs only. -/

@[simp] theorem sampled_pc : (s.sampled).pc = s.pc := rfl
@[simp] theorem sampled_npc : (s.sampled).npc = s.npc := rfl
@[simp] theorem sampled_g : (s.sampled).g = s.g := rfl
@[simp] theorem sampled_w : (s.sampled).w = s.w := rfl
@[simp] theorem sampled_psr : (s.sampled).psr = s.psr := rfl
@[simp] theorem sampled_wim : (s.sampled).wim = s.wim := rfl
@[simp] theorem sampled_tbr : (s.sampled).tbr = s.tbr := rfl
@[simp] theorem sampled_y : (s.sampled).y = s.y := rfl
@[simp] theorem sampled_f : (s.sampled).f = s.f := rfl
@[simp] theorem sampled_fsr : (s.sampled).fsr = s.fsr := rfl
@[simp] theorem sampled_fq : (s.sampled).fq = s.fq := rfl
@[simp] theorem sampled_fpuMode : (s.sampled).fpuMode = s.fpuMode := rfl
@[simp] theorem sampled_cp : (s.sampled).cp = s.cp := rfl
@[simp] theorem sampled_mem : (s.sampled).mem = s.mem := rfl
@[simp] theorem sampled_errorMode : (s.sampled).errorMode = s.errorMode := rfl
@[simp] theorem sampled_psrWrite : (s.sampled).psrWrite = s.psrWrite := rfl
@[simp] theorem sampled_wimWrite : (s.sampled).wimWrite = s.wimWrite := rfl
@[simp] theorem sampled_tbrWrite : (s.sampled).tbrWrite = s.tbrWrite := rfl
@[simp] theorem sampled_yWrite : (s.sampled).yWrite = s.yWrite := rfl
@[simp] theorem sampled_prev : (s.sampled).prev = s.prev := rfl
@[simp] theorem sampled_pausedDelays : (s.sampled).pausedDelays = s.pausedDelays := rfl
@[simp] theorem sampled_stale : (s.sampled).stale = s.stale := rfl
@[simp] theorem sampled_platform : (s.sampled).platform = s.platform := rfl
@[simp] theorem sampled_draws : (s.sampled).draws = s.draws := rfl

/-! `State.aged` changes stale only. -/

@[simp] theorem aged_pc : (s.aged).pc = s.pc := rfl
@[simp] theorem aged_npc : (s.aged).npc = s.npc := rfl
@[simp] theorem aged_g : (s.aged).g = s.g := rfl
@[simp] theorem aged_w : (s.aged).w = s.w := rfl
@[simp] theorem aged_psr : (s.aged).psr = s.psr := rfl
@[simp] theorem aged_wim : (s.aged).wim = s.wim := rfl
@[simp] theorem aged_tbr : (s.aged).tbr = s.tbr := rfl
@[simp] theorem aged_y : (s.aged).y = s.y := rfl
@[simp] theorem aged_f : (s.aged).f = s.f := rfl
@[simp] theorem aged_fsr : (s.aged).fsr = s.fsr := rfl
@[simp] theorem aged_fq : (s.aged).fq = s.fq := rfl
@[simp] theorem aged_fpuMode : (s.aged).fpuMode = s.fpuMode := rfl
@[simp] theorem aged_cp : (s.aged).cp = s.cp := rfl
@[simp] theorem aged_mem : (s.aged).mem = s.mem := rfl
@[simp] theorem aged_errorMode : (s.aged).errorMode = s.errorMode := rfl
@[simp] theorem aged_psrWrite : (s.aged).psrWrite = s.psrWrite := rfl
@[simp] theorem aged_wimWrite : (s.aged).wimWrite = s.wimWrite := rfl
@[simp] theorem aged_tbrWrite : (s.aged).tbrWrite = s.tbrWrite := rfl
@[simp] theorem aged_yWrite : (s.aged).yWrite = s.yWrite := rfl
@[simp] theorem aged_prev : (s.aged).prev = s.prev := rfl
@[simp] theorem aged_pausedDelays : (s.aged).pausedDelays = s.pausedDelays := rfl
@[simp] theorem aged_platform : (s.aged).platform = s.platform := rfl
@[simp] theorem aged_inputs : (s.aged).inputs = s.inputs := rfl
@[simp] theorem aged_draws : (s.aged).draws = s.draws := rfl

/-! `State.branch` changes pc, npc, prev, psrWrite, wimWrite, tbrWrite, yWrite, draws only. -/

@[simp] theorem branch_g (c : BitVec 4) (k a : Bool) (d : BitVec 22) : (s.branch c k a d).g = s.g := by unfold State.branch; split_ifs <;> rfl
@[simp] theorem branch_w (c : BitVec 4) (k a : Bool) (d : BitVec 22) : (s.branch c k a d).w = s.w := by unfold State.branch; split_ifs <;> rfl
@[simp] theorem branch_psr (c : BitVec 4) (k a : Bool) (d : BitVec 22) : (s.branch c k a d).psr = s.psr := by unfold State.branch; split_ifs <;> rfl
@[simp] theorem branch_wim (c : BitVec 4) (k a : Bool) (d : BitVec 22) : (s.branch c k a d).wim = s.wim := by unfold State.branch; split_ifs <;> rfl
@[simp] theorem branch_tbr (c : BitVec 4) (k a : Bool) (d : BitVec 22) : (s.branch c k a d).tbr = s.tbr := by unfold State.branch; split_ifs <;> rfl
@[simp] theorem branch_y (c : BitVec 4) (k a : Bool) (d : BitVec 22) : (s.branch c k a d).y = s.y := by unfold State.branch; split_ifs <;> rfl
@[simp] theorem branch_f (c : BitVec 4) (k a : Bool) (d : BitVec 22) : (s.branch c k a d).f = s.f := by unfold State.branch; split_ifs <;> rfl
@[simp] theorem branch_fsr (c : BitVec 4) (k a : Bool) (d : BitVec 22) : (s.branch c k a d).fsr = s.fsr := by unfold State.branch; split_ifs <;> rfl
@[simp] theorem branch_fq (c : BitVec 4) (k a : Bool) (d : BitVec 22) : (s.branch c k a d).fq = s.fq := by unfold State.branch; split_ifs <;> rfl
@[simp] theorem branch_fpuMode (c : BitVec 4) (k a : Bool) (d : BitVec 22) : (s.branch c k a d).fpuMode = s.fpuMode := by unfold State.branch; split_ifs <;> rfl
@[simp] theorem branch_cp (c : BitVec 4) (k a : Bool) (d : BitVec 22) : (s.branch c k a d).cp = s.cp := by unfold State.branch; split_ifs <;> rfl
@[simp] theorem branch_mem (c : BitVec 4) (k a : Bool) (d : BitVec 22) : (s.branch c k a d).mem = s.mem := by unfold State.branch; split_ifs <;> rfl
@[simp] theorem branch_errorMode (c : BitVec 4) (k a : Bool) (d : BitVec 22) : (s.branch c k a d).errorMode = s.errorMode := by unfold State.branch; split_ifs <;> rfl
@[simp] theorem branch_pausedDelays (c : BitVec 4) (k a : Bool) (d : BitVec 22) : (s.branch c k a d).pausedDelays = s.pausedDelays := by unfold State.branch; split_ifs <;> rfl
@[simp] theorem branch_stale (c : BitVec 4) (k a : Bool) (d : BitVec 22) : (s.branch c k a d).stale = s.stale := by unfold State.branch; split_ifs <;> rfl
@[simp] theorem branch_platform (c : BitVec 4) (k a : Bool) (d : BitVec 22) : (s.branch c k a d).platform = s.platform := by unfold State.branch; split_ifs <;> rfl
@[simp] theorem branch_inputs (c : BitVec 4) (k a : Bool) (d : BitVec 22) : (s.branch c k a d).inputs = s.inputs := by unfold State.branch; split_ifs <;> rfl

end Sys2Proof.Machine
end

