-- ==== Sys2Proof/Laws/Memory.lean ====
section
/-! SUPPORT. Memory: a write is read back, leaves every other byte alone, and keeps the canonical form; what
each store does to a byte. -/

namespace Sys2Proof.Machine

open Sys2Proof

/-- The canonical form as a proposition. -/
theorem Memory.wf_iff (m : Memory) :
    Memory.wf m = true ↔ m.Pairwise (fun a b => a.1 < b.1) ∧ ∀ c ∈ m, c.2 ≠ Memory.unlisted := by
  simp [Memory.wf, List.all_eq_true]

theorem Memory.wf_nil : Memory.wf [] = true := by decide

theorem Memory.wf_cons (k : Nat) (b : Byte) (m : Memory) :
    Memory.wf ((k, b) :: m) = true ↔ (∀ c ∈ m, k < c.1) ∧ b ≠ Memory.unlisted ∧ Memory.wf m = true := by
  simp only [Memory.wf_iff, List.pairwise_cons, List.mem_cons, forall_eq_or_imp]
  tauto

/-- A write leaves the other bytes alone. -/
theorem Memory.read_write_other (m : Memory) {key key' : Nat} (v : Byte) (h : key' ≠ key) :
    Memory.read (Memory.write m key v) key' = Memory.read m key' := by
  induction m with
  | nil =>
    unfold Memory.write
    split <;> simp [Memory.read, Ne.symm h]
  | cons c rest ih =>
    obtain ⟨k, b⟩ := c
    unfold Memory.write
    split_ifs with h1 h2 h3 h4
    · rfl
    · simp [Memory.read, Ne.symm h]
    · subst h3; simp [Memory.read, Ne.symm h]
    · subst h3; simp [Memory.read, Ne.symm h]
    · simp only [Memory.read, ih]

/-- A key below every listed key is unlisted. -/
theorem Memory.read_of_lt (m : Memory) (key : Nat) (h : ∀ c ∈ m, key < c.1) : Memory.read m key = Memory.unlisted := by
  induction m with
  | nil => rfl
  | cons c rest ih =>
    obtain ⟨k, b⟩ := c
    have hk : key < k := h (k, b) (by simp)
    rw [Memory.read, if_neg (by omega)]
    exact ih fun c hc => h c (by simp [hc])

/-- A write is read back. -/
theorem Memory.read_write_same (m : Memory) (key : Nat) (v : Byte) (hw : Memory.wf m = true) :
    Memory.read (Memory.write m key v) key = v := by
  induction m with
  | nil =>
    unfold Memory.write
    split <;> rename_i h
    · rw [h]; rfl
    · simp [Memory.read]
  | cons c rest ih =>
    obtain ⟨k, b⟩ := c
    obtain ⟨hlt, hb, hrest⟩ := (Memory.wf_cons k b rest).1 hw
    unfold Memory.write
    split_ifs with h1 h2 h3 h4
    · rw [h2]
      refine Memory.read_of_lt _ _ fun c hc => ?_
      rcases List.mem_cons.1 hc with rfl | hc
      · exact h1
      · exact h1.trans (hlt c hc)
    · simp [Memory.read]
    · subst h3; rw [h4]; exact Memory.read_of_lt _ _ hlt
    · simp [Memory.read]
    · rw [Memory.read, if_neg h3]; exact ih hrest

/-- The keys of a written memory: the old ones and the one written. -/
theorem Memory.mem_write (m : Memory) (key : Nat) (v : Byte) : ∀ c ∈ Memory.write m key v, c.1 = key ∨ c ∈ m := by
  induction m with
  | nil =>
    intro c hc
    unfold Memory.write at hc
    split at hc <;> simp_all
  | cons c rest ih =>
    obtain ⟨k, b⟩ := c
    intro c hc
    unfold Memory.write at hc
    split_ifs at hc with h1 h2 h3 h4
    · exact .inr hc
    · rcases List.mem_cons.1 hc with rfl | hc
      · exact .inl rfl
      · exact .inr hc
    · exact .inr (List.mem_cons_of_mem _ hc)
    · rcases List.mem_cons.1 hc with rfl | hc
      · exact .inl rfl
      · exact .inr (List.mem_cons_of_mem _ hc)
    · rcases List.mem_cons.1 hc with rfl | hc
      · exact .inr (by simp)
      · exact (ih c hc).imp id (List.mem_cons_of_mem _)

/-- A write keeps the canonical form. -/
theorem Memory.write_wf (m : Memory) (key : Nat) (v : Byte) (hw : Memory.wf m = true) :
    Memory.wf (Memory.write m key v) = true := by
  induction m with
  | nil =>
    unfold Memory.write
    split <;> rename_i h
    · exact Memory.wf_nil
    · exact (Memory.wf_cons _ _ _).2 ⟨by simp, h, Memory.wf_nil⟩
  | cons c rest ih =>
    obtain ⟨k, b⟩ := c
    obtain ⟨hlt, hb, hrest⟩ := (Memory.wf_cons k b rest).1 hw
    unfold Memory.write
    split_ifs with h1 h2 h3 h4
    · exact hw
    · refine (Memory.wf_cons _ _ _).2 ⟨fun c hc => ?_, h2, hw⟩
      rcases List.mem_cons.1 hc with rfl | hc
      · exact h1
      · exact h1.trans (hlt c hc)
    · exact hrest
    · subst h3; exact (Memory.wf_cons _ _ _).2 ⟨hlt, h4, hrest⟩
    · refine (Memory.wf_cons _ _ _).2 ⟨fun c hc => ?_, hb, ih hrest⟩
      rcases Memory.mem_write rest key v c hc with rfl | hc
      · omega
      · exact hlt c hc

/-! ## Stores -/

/-- Different addresses of a storage have different keys. -/
theorem memKey_inj (st : Nat) {a b : Word} : memKey st a = memKey st b ↔ a = b := by
  unfold memKey
  constructor
  · intro h; exact BitVec.eq_of_toNat_eq (by omega)
  · rintro rfl; rfl

theorem storeByte_wf (s : State) (st : Nat) (a : Word) (v : Byte) (h : Memory.wf s.mem = true) :
    Memory.wf (s.storeByte st a v).mem = true := Memory.write_wf _ _ _ h

theorem storeHalf_wf (s : State) (st : Nat) (a : Word) (v : Halfword) (h : Memory.wf s.mem = true) :
    Memory.wf (s.storeHalf st a v).mem = true := storeByte_wf _ _ _ _ (storeByte_wf _ _ _ _ h)

theorem storeWord_wf (s : State) (st : Nat) (a v : Word) (h : Memory.wf s.mem = true) :
    Memory.wf (s.storeWord st a v).mem = true :=
  storeByte_wf _ _ _ _ (storeByte_wf _ _ _ _ (storeByte_wf _ _ _ _ (storeByte_wf _ _ _ _ h)))

theorem storeDouble_wf (s : State) (st : Nat) (a : Word) (v : Doubleword) (h : Memory.wf s.mem = true) :
    Memory.wf (s.storeDouble st a v).mem = true := storeWord_wf _ _ _ _ (storeWord_wf _ _ _ _ h)

/-- What a byte store does to every byte. -/
theorem storeByte_read (s : State) (st : Nat) (a : Word) (v : Byte) (h : Memory.wf s.mem = true) (key : Nat) :
    Memory.read (s.storeByte st a v).mem key = if key = memKey st a then v else Memory.read s.mem key := by
  split <;> rename_i hk
  · subst hk; exact Memory.read_write_same _ _ _ h
  · exact Memory.read_write_other _ _ hk

/-- A byte store leaves the bytes at other keys alone. -/
theorem storeByte_read_other (s : State) (st : Nat) (a : Word) (v : Byte) {key : Nat} (h : key ≠ memKey st a) :
    Memory.read (s.storeByte st a v).mem key = Memory.read s.mem key := Memory.read_write_other _ _ h

end Sys2Proof.Machine
end

