-- ==== Sys2Proof/Laws/Registers.lean ====
section
/-! SUPPORT. Reading integer and f registers after writing one, in terms of physical registers. -/

namespace Sys2Proof.Machine

open Sys2Proof

/-- Reading a vector after writing one entry. -/
theorem vector_get_set {α : Type} {n : Nat} (v : Vector α n) (i : Nat) (hi : i < n) (x : α) (j : Fin n) :
    (v.set i x hi).get j = if i = j.val then x else v.get j := by
  have h : ∀ u : Vector α n, u.get j = u[j.val] := fun _ => rfl
  rw [h, h, Vector.getElem_set]

/-- The number of a global register is the register's number. -/
theorem physical_global {w : BitVec 5} {n : RegNum} (h : n.toNat < 8) : physical w n = n.toNat := by
  simp [physical, h]

/-- The number of a windowed register is its index, after the eight globals. -/
theorem physical_windowed {w : BitVec 5} {n : RegNum} (h : ¬ n.toNat < 8) :
    physical w n = 8 + (windowIndex w n).val := by
  have := n.isLt
  simp only [physical, windowIndex, h, if_false]
  split_ifs <;> congr 2 <;> omega

theorem regNum_ne_zero {n : RegNum} : n ≠ 0 ↔ n.toNat ≠ 0 := by
  constructor
  · intro h h'; exact h (BitVec.eq_of_toNat_eq (by simpa using h'))
  · rintro h rfl; simp at h

/-- Reading a register of a window depends on the registers only. -/
theorem regIn_congr {s t : State} (hg : t.g = s.g) (hw : t.w = s.w) (w : BitVec 5) (n : RegNum) :
    t.regIn w n = s.regIn w n := by
  simp only [State.regIn, hg, hw]

/-- r[0] reads as 0 in every window (`10_state.md` R33). -/
@[simp] theorem regIn_zero (s : State) (w : BitVec 5) : s.regIn w 0#5 = 0#32 := by simp [State.regIn]

/-- Every register of every window after a write of one (`10_state.md` R32, R33). -/
theorem regIn_setRegIn (s : State) (c : BitVec 5) (r : RegNum) (v : Word) : writesReg s (s.setRegIn c r v) c r v := by
  intro w n
  by_cases hr : r = 0#5
  · subst hr; simp [State.setRegIn]
  by_cases hn : n = 0#5
  · subst hn
    have h0 : physical w 0#5 = 0 := by simp [physical]
    have : physical c r ≠ 0 := by
      by_cases h8 : r.toNat < 8
      · rw [physical_global h8]; exact regNum_ne_zero.1 hr
      · rw [physical_windowed h8]; omega
    rw [regIn_zero, regIn_zero, if_neg]
    rintro ⟨-, h⟩
    exact this (h.symm.trans h0)
  have hr' : r ≠ 0 := hr
  by_cases hr8 : r.toNat < 8 <;> by_cases hn8 : n.toNat < 8
  · rw [physical_global hr8, physical_global hn8]
    simp only [State.regIn, State.setRegIn, hr, hn, hr8, hn8, if_true, if_false, hr', ne_eq, not_false_eq_true, true_and]
    have e1 : (globalIndex r).val = r.toNat := by simp [globalIndex, Nat.mod_eq_of_lt hr8]
    have e2 : (globalIndex n).val = n.toNat := by simp [globalIndex, Nat.mod_eq_of_lt hn8]
    rw [vector_get_set, e1, e2]
    exact if_congr eq_comm rfl rfl
  · rw [physical_global hr8, physical_windowed hn8, if_neg (by omega)]
    simp [State.regIn, State.setRegIn, hr, hn, hr8, hn8]
  · rw [physical_windowed hr8, physical_global hn8, if_neg (by omega)]
    simp [State.regIn, State.setRegIn, hr, hn, hr8, hn8]
  · rw [physical_windowed hr8, physical_windowed hn8]
    simp only [State.regIn, State.setRegIn, hr, hn, hr8, hn8, if_false, hr', ne_eq, not_false_eq_true, true_and]
    rw [vector_get_set]
    exact if_congr ⟨fun h => by rw [h], fun h => by omega⟩ rfl rfl

/-- Every register of every window after a write to the current window. -/
theorem regIn_setReg (s : State) (r : RegNum) (v : Word) : writesReg s (s.setReg r v) s.cwpView r v :=
  regIn_setRegIn s s.cwpView r v

/-- The window used does not change by writing registers, and by nothing that keeps the PSR's hazard window. -/
theorem cwpView_congr {s t : State} (h1 : t.psrWrite = s.psrWrite) (h2 : t.psr = s.psr) (h3 : t.draws = s.draws) :
    t.cwpView = s.cwpView := by
  simp only [State.cwpView, h1, h2, h3]

@[simp] theorem cwpView_setReg (s : State) (r : RegNum) (v : Word) : (s.setReg r v).cwpView = s.cwpView :=
  cwpView_congr (by simp) (by simp) (by simp)

/-- Two registers of one window are the same physical register only if they are the same register. -/
theorem physical_inj {c : BitVec 5} {n m : RegNum} : physical c n = physical c m ↔ n = m := by
  constructor
  · intro h
    have hn := n.isLt
    have hm := m.isLt
    apply BitVec.eq_of_toNat_eq
    unfold physical at h
    split_ifs at h <;> omega
  · rintro rfl; rfl

/-- Every f register after a write of one. -/
theorem freg_setFreg (s : State) (r k : RegNum) (v : Word) : (s.setFreg r v).freg k = if k = r then v else s.freg k := by
  simp only [State.freg, State.setFreg]
  rw [vector_get_set]
  exact if_congr ⟨fun h => BitVec.eq_of_toNat_eq h.symm, fun h => by rw [h]⟩ rfl rfl

/-- Every c register after a write of one. -/
theorem creg_setCreg (s : State) (r k : RegNum) (v : Word) : (s.setCreg r v).creg k = if k = r then v else s.creg k := by
  simp only [State.creg, State.setCreg]
  rw [vector_get_set]
  exact if_congr ⟨fun h => BitVec.eq_of_toNat_eq h.symm, fun h => by rw [h]⟩ rfl rfl

/-- Reading an f register depends on the f registers only. -/
theorem freg_congr {s t : State} (h : t.f = s.f) (k : RegNum) : t.freg k = s.freg k := by simp only [State.freg, h]

/-- Reading a c register depends on the c registers only. -/
theorem creg_congr {s t : State} (h : t.cp = s.cp) (k : RegNum) : t.creg k = s.creg k := by simp only [State.creg, h]

end Sys2Proof.Machine
end

