-- ==== Sys2Proof/Laws/Effects.lean ====
section
/-! SUPPORT. What each shared operation can do, said once: the ends of an instruction, traps, the checked
memory access, stores, the FPU's checks and the end of an FPop. -/

namespace Sys2Proof.Machine

open Sys2Proof

/-! ## Ends of an instruction -/

theorem keepsMemory_of_eq {s t : State} (h : t.mem = s.mem) : keepsMemory s t := fun _ => by rw [h]

theorem keepsRegs_of_eq {s t : State} (hg : t.g = s.g) (hw : t.w = s.w) : keepsRegs s t := regIn_congr hg hw

theorem writesReg_congr {s u t : State} {c : BitVec 5} {r : RegNum} {v : Word} (h : writesReg s u c r v)
    (hg : t.g = u.g) (hw : t.w = u.w) : writesReg s t c r v := fun w n => by rw [regIn_congr hg hw, h]

/-- An instruction that writes r[rd] completes with exactly that effect. -/
theorem finish_effect (s : State) (rd : RegNum) (r : Word) : completes (finish s rd r) (aluEffect s rd r s.psr.icc) := by
  refine ⟨_, rfl, writesReg_congr (regIn_setReg s rd r) (by simp) (by simp), by simp, ?_, by simp [advanced]⟩
  exact ⟨by simp [keepsControl], by simp [keepsFpu], by simp, keepsMemory_of_eq (by simp), by simp [keepsOutside]⟩

/-- An instruction that writes r[rd] and icc completes with exactly that effect. -/
theorem finishCc_effect (s : State) (rd : RegNum) (r : Word) (icc : Icc) :
    completes (finishCc s rd r icc) (aluEffect s rd r icc) := by
  refine ⟨_, rfl, writesReg_congr (regIn_setReg s rd r) (by simp) (by simp), by simp, ?_, by simp [advanced]⟩
  exact ⟨by simp [keepsControl], by simp [keepsFpu], by simp, keepsMemory_of_eq (by simp), by simp [keepsOutside]⟩

theorem completes_next {t : State} {P : State → Prop} : completes (.next t) P ↔ P t := by simp [completes]

/-! ## Traps -/

theorem prevWindow_toNat (c : BitVec 5) : (prevWindow c).toNat = (c.toNat + 7) % 8 := by
  simp [prevWindow, Config.nWindows]; omega

theorem nextWindow_toNat (c : BitVec 5) : (nextWindow c).toNat = (c.toNat + 1) % 8 := by
  simp [nextWindow, Config.nWindows]; omega

/-- The number of two bit strings side by side. -/
theorem toNat_append_add {m n : Nat} (x : BitVec m) (y : BitVec n) : (x ++ y).toNat = x.toNat * 2 ^ n + y.toNat := by
  rw [BitVec.toNat_append, ← Nat.shiftLeft_add_eq_or_of_lt y.isLt, Nat.shiftLeft_eq]

theorem tbrWord_toNat (a : BitVec 20) (b : BitVec 8) : (tbrWord a b).toNat = a.toNat * 4096 + b.toNat * 16 := by
  simp only [tbrWord, toNat_append_add, BitVec.toNat_ofNat]
  omega

@[simp] theorem tbaOf_tbrWord (a : BitVec 20) (b : BitVec 8) : tbaOf (tbrWord a b) = a := by
  apply BitVec.eq_of_toNat_eq
  have := a.isLt
  have := b.isLt
  simp only [tbaOf, BitVec.extractLsb'_toNat, tbrWord_toNat, Nat.shiftRight_eq_div_pow]
  omega

@[simp] theorem ttOf_tbrWord (a : BitVec 20) (b : BitVec 8) : ttOf (tbrWord a b) = b := by
  apply BitVec.eq_of_toNat_eq
  have := a.isLt
  have := b.isLt
  simp only [ttOf, BitVec.extractLsb'_toNat, tbrWord_toNat, Nat.shiftRight_eq_div_pow]
  omega

/-- The vector uses the TBA of the TBR, or inside the window of a WRTBR the old one. -/
theorem vectorTba_cases (s : State) :
    s.vectorTba = tbaOf s.tbr ∨ 0 < s.tbrWrite.left ∧ s.vectorTba = tbaOf s.tbrWrite.old := by
  unfold State.vectorTba
  split <;> rename_i h
  · simp only [DelayedWrite.doubts, Bool.and_eq_true, decide_eq_true_eq] at h
    exact .inr ⟨h.1.1, rfl⟩
  · exact .inl rfl

/-- The registers after trap entry: PC in r[17] and nPC in r[18] of the new window. -/
theorem enterTrap_regIn (s : State) (tr : Trap) (w : BitVec 5) (n : RegNum) :
    (s.enterTrap tr).regIn w n =
      if physical w n = physical (prevWindow s.psr.cwp) 17#5 then s.pc
      else if physical w n = physical (prevWindow s.psr.cwp) 18#5 then s.npc else s.regIn w n := by
  have h : (s.enterTrap tr).regIn w n =
      ((s.setRegIn (prevWindow s.psr.cwp) 17#5 s.pc).setRegIn (prevWindow s.psr.cwp) 18#5 s.npc).regIn w n := rfl
  rw [h, regIn_setRegIn, regIn_setRegIn]
  have hne : physical (prevWindow s.psr.cwp) 17#5 ≠ physical (prevWindow s.psr.cwp) 18#5 := by rw [Ne, physical_inj]; decide
  by_cases h18 : physical w n = physical (prevWindow s.psr.cwp) 18#5
  · rw [if_pos ⟨by decide, h18⟩, if_neg (fun h' => hne (h'.symm.trans h18)), if_pos h18]
  · rw [if_neg (fun h' => h18 h'.2), if_neg h18]
    exact if_congr ⟨And.right, fun h' => ⟨by decide, h'⟩⟩ rfl rfl

/-- Trap entry is what R520 says. -/
theorem enterTrap_trapsTo (s : State) (tr : Trap) (h : s.trapsEnabled = true) : trapsTo s tr.tt (s.enterTrap tr) := by
  refine ⟨by simp, by simp, by simp, by simp, by simp [keepsFpu], by simp, keepsMemory_of_eq (by simp), by simp, by simp, ?_⟩
  rw [if_pos h]
  refine ⟨by simp, by simp [prevWindow_toNat], ?_, ?_, by simp, by simp⟩
  · exact enterTrap_regIn s tr
  · rw [enterTrap_pc, tbrWord_toNat]
    rcases vectorTba_cases s with h | ⟨h1, h2⟩
    · left; rw [h]
    · right; exact ⟨h1, by rw [h2]⟩

/-- A synchronous trap condition is what R520 and R525 say. -/
theorem trap_trapsTo (s : State) (tr : Trap) : trapsTo s tr.tt (s.trap tr) := by
  unfold State.trap
  split <;> rename_i h
  · exact enterTrap_trapsTo s tr h
  · refine ⟨by simp, by simp, by simp, by simp, by simp [keepsFpu], by simp, keepsMemory_of_eq (by simp), by simp, by simp, ?_⟩
    rw [if_neg h]
    exact ⟨by simp, keepsRegs_of_eq (by simp) (by simp), by simp, by simp, by simp⟩

/-- `raise` completes with the trap's effect. -/
theorem raise_effect (s : State) (tr : Trap) : completes (raise s tr) (trapsTo s tr.tt) := ⟨_, rfl, trap_trapsTo s tr⟩

/-- The trap's effect does not depend on what the trap leaves alone in another state. -/
theorem trapped_trap (s : State) (tr : Trap) : trapped s (s.trap tr) := ⟨s, tr, rfl, rfl, rfl, rfl⟩

/-- After a trap traps are disabled or the machine is in error mode. -/
theorem trapped_off {s t : State} (h : trapped s t) : t.psr.et = false ∨ t.errorMode = true := by
  obtain ⟨u, tr, rfl, -, -, -⟩ := h
  unfold State.trap
  split
  · exact .inl (by simp)
  · exact .inr (by simp)

/-! ## The checked access -/

theorem needAligned_of {s : State} {a : Word} {n : Nat} {k : Result} (h : a.toNat % n = 0) : needAligned s a n k = k := by
  simp [needAligned, h]

theorem needAligned_not {s : State} {a : Word} {n : Nat} {k : Result} (h : a.toNat % n ≠ 0) :
    needAligned s a n k = raise s .memoryAddressNotAligned := by simp [needAligned, h]

theorem needPair_of {r : RegNum} {k : Result} (h : r.toNat % 2 = 0) : needPair r k = k := by
  simp [needPair, isPair, evenReg, h]

theorem needPair_not {r : RegNum} {k : Result} (h : r.toNat % 2 = 1) : needPair r k = .refused (.oddRegister r) := by
  simp [needPair, isPair, evenReg, h]

/-- The data space of the mode reaches a storage. -/
theorem storageOf_dataAsi (s : State) : s.platform.storageOf s.dataAsi = some s.dataStorage := by
  unfold State.dataAsi State.dataStorage
  split <;> rfl

/-- An access that is not refused, in a space that reaches a storage. -/
theorem access_of {s : State} {asi : BitVec 8} {a : Word} {n : Nat} {kind : AccessKind} {k : Nat → Result} {st : Nat}
    (h1 : s.platform.memFault asi a n kind = false) (h2 : s.platform.storageOf asi = some st) :
    access s asi a n kind k = k st := by simp [access, h1, h2]

theorem access_refused {s : State} {asi : BitVec 8} {a : Word} {n : Nat} {kind : AccessKind} {k : Nat → Result}
    (h : s.platform.memFault asi a n kind = true) : access s asi a n kind k = raise s .dataAccessException := by
  simp [access, h]

/-- An allowed access in the data space of the mode. -/
theorem dataAccess_of {s : State} {rs1 : RegNum} {src2 : Operand2} {n : Nat} {kind : AccessKind} {k : Nat → Word → Result}
    (h : dataAllowed s (s.sum rs1 src2) n kind) : dataAccess s rs1 src2 n kind k = k s.dataStorage (s.sum rs1 src2) := by
  unfold dataAccess
  rw [needAligned_of h.1, access_of h.2 (storageOf_dataAsi s)]

/-- An allowed alternate-space access in supervisor mode. -/
theorem altAccess_of {s : State} {rs1 rs2 : RegNum} {asi : BitVec 8} {pair : Result → Result} {n : Nat} {kind : AccessKind}
    {k : Nat → Word → Result} {st : Nat} (hs : s.supervisor = true)
    (h : alternateAllowed s asi (s.reg rs1 + s.reg rs2) n kind st) :
    altAccess s rs1 (.reg asi rs2) pair n kind k = pair (k st (s.reg rs1 + s.reg rs2)) := by
  simp only [altAccess, altCheck, privileged, hs, if_true, needAligned_of h.1, access_of h.2.1 h.2.2]

/-! ## Bytes -/

theorem half_eq (m : Memory) (st : Nat) (a : Word) : m.half st a = BitVec.ofNat 16 (bytesAt m st a 2) := by
  apply BitVec.eq_of_toNat_eq
  have h0 := (m.byteAt st a).isLt
  have h1 := (m.byteAt st (a + 1#32)).isLt
  have z : a + BitVec.ofNat 32 0 = a := by simp
  simp only [Memory.half, bytesAt, toNat_append_add, BitVec.toNat_ofNat, z, BitVec.ofNat_eq_ofNat]
  omega

theorem word_eq (m : Memory) (st : Nat) (a : Word) : m.word st a = BitVec.ofNat 32 (bytesAt m st a 4) := by
  apply BitVec.eq_of_toNat_eq
  have h0 := (m.byteAt st a).isLt
  have h1 := (m.byteAt st (a + 1#32)).isLt
  have h2 := (m.byteAt st (a + 2#32)).isLt
  have h3 := (m.byteAt st (a + 3#32)).isLt
  have z : a + BitVec.ofNat 32 0 = a := by simp
  simp only [Memory.word, bytesAt, toNat_append_add, BitVec.toNat_ofNat, z, BitVec.ofNat_eq_ofNat]
  omega

theorem bytesAt_lt (m : Memory) (st : Nat) (a : Word) (n : Nat) : bytesAt m st a n < 256 ^ n := by
  induction n with
  | zero => simp [bytesAt]
  | succ n ih =>
    have := (m.byteAt st (a + BitVec.ofNat 32 n)).isLt
    simp only [bytesAt, pow_succ]
    omega

/-- The two words of a doubleword access (`20_memory.md` R101). -/
theorem bytesAt_eight (m : Memory) (st : Nat) (a : Word) : bytesAt m st a 8 = bytesAt m st a 4 * 2 ^ 32 + bytesAt m st (a + 4) 4 := by
  have e : ∀ k : Nat, a + 4 + BitVec.ofNat 32 k = a + BitVec.ofNat 32 (4 + k) := by
    intro k; rw [BitVec.ofNat_add, ← BitVec.add_assoc]; rfl
  simp only [bytesAt, e]
  norm_num
  ring

/-- A store of n bytes. -/
theorem storeByte_bytes (s : State) (st : Nat) (a : Word) (v : Byte) (h : Memory.wf s.mem = true) :
    storesBytes s (s.storeByte st a v) st a 1 v.toNat := by
  constructor
  · intro k hk
    obtain rfl : k = 0 := by omega
    have := v.isLt
    rw [Memory.byteAt, storeByte_read s st a v h, if_pos (by simp)]
    simp
    omega
  · intro key hk
    have := hk 0 (by decide)
    simp at this
    exact storeByte_read_other s st a v this

/-- Two stores side by side are one store. -/
theorem storesBytes_append {s u t : State} {st : Nat} {a : Word} {n m hi lo : Nat} (h1 : storesBytes s u st a n hi)
    (h2 : storesBytes u t st (a + BitVec.ofNat 32 n) m lo) (hlo : lo < 256 ^ m) (hlen : n + m ≤ 2 ^ 32) :
    storesBytes s t st a (n + m) (hi * 256 ^ m + lo) := by
  have hadd : ∀ j : Nat, a + BitVec.ofNat 32 n + BitVec.ofNat 32 j = a + BitVec.ofNat 32 (n + j) := by
    intro j; rw [BitVec.ofNat_add, BitVec.add_assoc]
  have hne : ∀ i j : Nat, i < n + m → j < n + m → i ≠ j → memKey st (a + BitVec.ofNat 32 i) ≠ memKey st (a + BitVec.ofNat 32 j) := by
    intro i j hi hj hij h
    rw [memKey_inj, BitVec.add_right_inj] at h
    have := congrArg BitVec.toNat h
    simp only [BitVec.toNat_ofNat] at this
    omega
  constructor
  · intro k hk
    by_cases hkn : k < n
    · have e : Memory.byteAt t.mem st (a + BitVec.ofNat 32 k) = Memory.byteAt u.mem st (a + BitVec.ofNat 32 k) :=
        h2.2 _ fun j hj => by rw [hadd]; exact hne _ _ hk (by omega) (by omega)
      rw [e, h1.1 k hkn, show n + m - 1 - k = m + (n - 1 - k) by omega, pow_add, ← Nat.div_div_eq_div_mul,
        Nat.mul_comm hi, Nat.mul_add_div (by positivity), Nat.div_eq_of_lt hlo, Nat.add_zero]
    · obtain ⟨j, rfl⟩ : ∃ j, k = n + j := ⟨k - n, by omega⟩
      have hj : j < m := by omega
      rw [← hadd, h2.1 j hj, show n + m - 1 - (n + j) = m - 1 - j by omega]
      have e : hi * 256 ^ m = 256 ^ (m - 1 - j) * (hi * 256 ^ j * 256) := by
        rw [show m = (m - 1 - j) + j + 1 by omega, pow_add, pow_add, show m - 1 - j + j + 1 - 1 - j = m - 1 - j by omega]
        ring
      rw [e, Nat.mul_add_div (by positivity)]
      omega
  · intro key hk
    rw [h2.2 key fun j hj => by rw [hadd]; exact hk _ (by omega), h1.2 key fun k hkn => hk k (by omega)]

theorem storeHalf_bytes (s : State) (st : Nat) (a : Word) (v : Halfword) (h : Memory.wf s.mem = true) :
    storesBytes s (s.storeHalf st a v) st a 2 v.toNat := by
  have h1 := storeByte_bytes s st a (v.extractLsb' 8 8) h
  have h2 := storeByte_bytes _ st (a + 1#32) (v.extractLsb' 0 8) (storeByte_wf s st a (v.extractLsb' 8 8) h)
  have := storesBytes_append (n := 1) h1 h2 (by simp; omega) (by decide)
  refine (congrArg (storesBytes _ _ _ _ _) ?_).mpr this
  have := v.isLt
  simp only [BitVec.extractLsb'_toNat, Nat.shiftRight_eq_div_pow]
  omega

theorem storeWord_bytes (s : State) (st : Nat) (a v : Word) (h : Memory.wf s.mem = true) :
    storesBytes s (s.storeWord st a v) st a 4 v.toNat := by
  have w1 := storeByte_wf s st a (v.extractLsb' 24 8) h
  have w2 := storeByte_wf _ st (a + 1#32) (v.extractLsb' 16 8) w1
  have w3 := storeByte_wf _ st (a + 2#32) (v.extractLsb' 8 8) w2
  have h1 := storeByte_bytes s st a (v.extractLsb' 24 8) h
  have h2 := storeByte_bytes _ st (a + 1#32) (v.extractLsb' 16 8) w1
  have h3 := storeByte_bytes _ st (a + 2#32) (v.extractLsb' 8 8) w2
  have h4 := storeByte_bytes _ st (a + 3#32) (v.extractLsb' 0 8) w3
  have := storesBytes_append (n := 3) (storesBytes_append (n := 2)
    (storesBytes_append (n := 1) h1 h2 (by simp; omega) (by decide)) h3 (by simp; omega) (by decide)) h4 (by simp; omega) (by decide)
  refine (congrArg (storesBytes _ _ _ _ _) ?_).mpr this
  have := v.isLt
  simp only [BitVec.extractLsb'_toNat, Nat.shiftRight_eq_div_pow]
  omega

theorem storeDouble_bytes (s : State) (st : Nat) (a : Word) (v : Doubleword) (h : Memory.wf s.mem = true) :
    storesBytes s (s.storeDouble st a v) st a 8 v.toNat := by
  have h1 := storeWord_bytes s st a (v.extractLsb' 32 32) h
  have h2 := storeWord_bytes _ st (a + 4#32) (v.extractLsb' 0 32) (storeWord_wf s st a (v.extractLsb' 32 32) h)
  have := storesBytes_append (n := 4) h1 h2 (BitVec.isLt _) (by decide)
  refine (congrArg (storesBytes _ _ _ _ _) ?_).mpr this
  have := v.isLt
  simp only [BitVec.extractLsb'_toNat, Nat.shiftRight_eq_div_pow]
  omega

/-- What a store does to memory is what it does to any state with the same memory after. -/
theorem storesBytes_congr {s u t : State} {st : Nat} {a : Word} {n v : Nat} (h : storesBytes s u st a n v)
    (hm : t.mem = u.mem) : storesBytes s t st a n v := by
  constructor
  · intro k hk; rw [hm]; exact h.1 k hk
  · intro key hk; rw [hm]; exact h.2 key hk

end Sys2Proof.Machine
end

