-- ==== Sys2Proof/Laws/Outcomes.lean ====
section
/-! SUPPORT. What every next state of a result satisfies, through each check and each end a meaning is built
from: the case analysis of a meaning, check by check, so that no proof unfolds one. -/

namespace Sys2Proof.Machine

open Sys2Proof

variable {P : State → Prop} {s u : State} {k : Result}

/-- Every next state that a result answers satisfies P. -/
def Always (r : Result) (P : State → Prop) : Prop := ∀ t, r = .next t → P t

theorem always_next {t : State} (h : P t) : Always (.next t) P := by rintro _ ⟨⟩; exact h

theorem always_refused {x : Refusal} : Always (.refused x) P := by rintro _ ⟨⟩

theorem always_fault {x : Fault} : Always (.fault x) P := by rintro _ ⟨⟩

theorem always_ite {c : Prop} [Decidable c] {a b : Result} (ha : c → Always a P) (hb : ¬ c → Always b P) :
    Always (if c then a else b) P := by
  split <;> rename_i h
  · exact ha h
  · exact hb h

theorem always_raise {tr : Trap} (h : P (s.trap tr)) : Always (raise s tr) P := always_next h

theorem always_privileged (h : P (s.trap .privilegedInstruction)) (hk : s.supervisor = true → Always k P) :
    Always (privileged s k) P := always_ite hk fun _ => always_next h

theorem always_needPair {r : RegNum} (hk : r.toNat % 2 = 0 → Always k P) : Always (needPair r k) P :=
  always_ite (fun h => hk (by simpa [isPair, evenReg] using h)) fun _ => always_refused

theorem always_needTriple {r : RegNum} (hk : isTriple r = true → Always k P) : Always (needTriple r k) P :=
  always_ite hk fun _ => always_refused

theorem always_needAligned {a : Word} {n : Nat} (h : P (s.trap .memoryAddressNotAligned))
    (hk : a.toNat % n = 0 → Always k P) : Always (needAligned s a n k) P := always_ite hk fun _ => always_next h

theorem always_access {asi : BitVec 8} {a : Word} {n : Nat} {kind : AccessKind} {f : Nat → Result}
    (h : P (s.trap .dataAccessException)) (hk : ∀ st, Always (f st) P) : Always (access s asi a n kind f) P := by
  refine always_ite (fun _ => always_next h) fun _ => ?_
  split
  · exact hk _
  · exact always_fault

theorem always_altCheck {rs1 : RegNum} {src2 : Operand2} {f : BitVec 8 → Word → Result}
    (hi : P (s.trap .illegalInstruction)) (hp : P (s.trap .privilegedInstruction))
    (hk : s.supervisor = true → ∀ asi ea, Always (f asi ea) P) : Always (altCheck s rs1 src2 f) P := by
  unfold altCheck
  split
  · exact always_next hi
  · exact always_privileged hp fun h => hk h _ _

theorem always_notInDelaySlot (hk : Always k P) : Always (notInDelaySlot s k) P :=
  always_ite (fun _ => always_refused) fun _ => hk

theorem always_fpEnabled (h : P (s.trap .fpDisabled)) (hk : Always k P) : Always (fpEnabled s k) P :=
  always_ite (fun _ => hk) fun _ => always_next h

theorem always_fpNoPending (h : P s.takeFpException) (hk : s.fpuMode ≠ .exceptionPending → Always k P) :
    Always (fpNoPending s k) P := always_ite (fun _ => always_next h) hk

theorem always_fpNoSequence (h : P (s.sequenceError.trap .fpException)) (hk : s.fpuMode ≠ .exception → Always k P) :
    Always (fpNoSequence s k) P := always_ite (fun _ => always_next h) hk

/-- The checks of an FPop and an FBfcc. -/
theorem always_fpReady (h1 : P (s.trap .fpDisabled)) (h2 : P s.takeFpException) (h3 : P (s.sequenceError.trap .fpException))
    (hk : s.fpuMode = .execute → Always k P) : Always (fpReady s k) P :=
  always_fpEnabled h1 <| always_fpNoPending h2 fun p => always_fpNoSequence h3 fun q => hk <| by
    cases h : s.fpuMode
    · rfl
    · exact absurd h p
    · exact absurd h q

theorem always_fpExtended {w : Word} (h : P (s.fpFail w 3)) (hk : Always k P) : Always (fpExtended s w k) P :=
  always_ite (fun _ => hk) fun _ => always_next h

/-- The end of an FPop: queued and pending, or done. -/
theorem always_fpComplete {w : Word} {unfinished : Bool} {texc : BitVec 5} {write : State → State}
    (hf : ∀ ftt cexc, P ({ s with fsr := { s.fsr with cexc := cexc } }.fpFail w ftt))
    (hk : P (write (s.fpDone texc)).advanceFp) : Always (fpComplete s w unfinished texc write) P :=
  always_ite (fun _ => always_next (hf 2 s.fsr.cexc)) fun _ =>
    always_ite (fun _ => always_next (hf 1 _)) fun _ => always_next hk

theorem always_cpEnabled (h : P (u.trap .cpDisabled)) (hk : Always k P) : Always (cpEnabled s u k) P :=
  always_ite (fun _ => hk) fun _ => always_next h

theorem always_cpNoException (h : P (u.trap .cpException)) (hk : Always k P) : Always (cpNoException s u k) P :=
  always_ite (fun _ => always_next h) fun _ => hk

/-! ## A ready unit runs its instruction -/

theorem fpReady_of (h1 : s.efView = true) (h2 : s.platform.fpuPresent = true) (h3 : s.fpuMode = .execute) : fpReady s k = k := by
  simp [fpReady, fpEnabled, fpNoPending, fpNoSequence, h1, h2, h3]

theorem cpReady_of (h1 : s.ecView = true) (h2 : s.platform.cpPresent = true) (h3 : s.cp.exceptionPending = false) :
    cpReady s k = k := by simp [cpReady, cpEnabled, cpNoException, h1, h2, h3]

/-- A finished FPop that raises no enabled exception. -/
theorem fpComplete_of {w : Word} {unfinished : Bool} {texc : BitVec 5} {write : State → State} (h1 : unfinished = false)
    (h2 : texc &&& s.fsr.tem = 0) : fpComplete s w unfinished texc write = .next (write (s.fpDone texc)).advanceFp := by
  simp [fpComplete, h1, h2]

/-! ## Outside its window a register is what it holds -/

theorem psrViews_of (h : s.psrWrite.left = 0) :
    s.cwpView = s.psr.cwp ∧ s.iccView = s.psr.icc ∧ s.supervisor = s.psr.s ∧ s.psView = s.psr.ps ∧
    s.trapsEnabled = s.psr.et ∧ s.efView = s.psr.ef ∧ s.ecView = s.psr.ec ∧ s.psrRead = s.psr.toWord := by
  simp [State.cwpView, State.iccView, State.supervisor, State.psView, State.trapsEnabled, State.efView, State.ecView,
    State.psrRead, DelayedWrite.doubts, h]

theorem wimViews_of (h : s.wimWrite.left = 0) : s.wimRead = s.wim ∧ ∀ w, s.windowInvalid w = s.wim.getLsbD w.toNat := by
  simp [State.wimRead, State.windowInvalid, DelayedWrite.doubts, h]

theorem tbrViews_of (h : s.tbrWrite.left = 0) : s.tbrRead = s.tbr ∧ s.vectorTba = tbaOf s.tbr := by
  simp [State.tbrRead, State.vectorTba, DelayedWrite.doubts, h]

theorem yView_of (h : s.yWrite.left = 0) : s.yView = s.y := by simp [State.yView, DelayedWrite.doubts, h]

end Sys2Proof.Machine
end

