-- ==== Sys2Proof/Laws/Flags.lean ====
section
/-! SUPPORT. The flag computations as arithmetic on numbers, and the finish of a rounded result. -/

namespace Sys2Proof.Machine

open Sys2Proof

theorem word_toInt (x : Word) : x.toInt = if x.toNat < 2 ^ 31 then (x.toNat : Int) else x.toNat - 2 ^ 32 := by
  rw [BitVec.toInt_eq_toNat_cond]
  split <;> split <;> omega

theorem word_msb (x : Word) : x.msb = decide (2 ^ 31 ≤ x.toNat) := by simp [BitVec.msb_eq_decide]

theorem carry_number (s : State) : s.carry.toNat = s.iccView.c.toNat := by unfold State.carry; cases s.iccView.c <;> rfl

/-- n, z, v, c of a sum with carry (R301). -/
theorem addFlags_eq (a b : Word) (c : Bool) (r : Word) (hr : r = BitVec.ofNat 32 (a.toNat + b.toNat + c.toNat)) :
    addFlags a b r =
      { n := decide (r.toInt < 0), z := decide (r.toNat = 0)
        v := decide (a.toInt + b.toInt + c.toNat < -2 ^ 31 ∨ 2 ^ 31 ≤ a.toInt + b.toInt + c.toNat)
        c := decide (2 ^ 32 ≤ a.toNat + b.toNat + c.toNat) } := by
  have h1 : r.toNat = (a.toNat + b.toNat + c.toNat) % 2 ^ 32 := by rw [hr]; simp
  have ha := a.isLt
  have hb := b.isLt
  have hc : c.toNat ≤ 1 := Bool.toNat_le c
  have z0 : (0 : Word).toNat = 0 := rfl
  simp only [addFlags, Icc.mk.injEq]
  refine ⟨Bool.eq_iff_iff.mpr ?_, Bool.eq_iff_iff.mpr ?_, Bool.eq_iff_iff.mpr ?_, Bool.eq_iff_iff.mpr ?_⟩ <;>
  simp only [word_msb, word_toInt, ← BitVec.toNat_inj, Bool.or_eq_true, Bool.and_eq_true, Bool.not_eq_true',
    decide_eq_true_eq, decide_eq_false_iff_not, z0] <;>
  (try split) <;> (try split) <;> omega

/-- n, z, v, c of a difference with borrow (R307). -/
theorem subFlags_eq (a b : Word) (c : Bool) (r : Word) (hr : r = BitVec.ofInt 32 ((a.toNat : Int) - b.toNat - c.toNat)) :
    subFlags a b r =
      { n := decide (r.toInt < 0), z := decide (r.toNat = 0)
        v := decide (a.toInt - b.toInt - c.toNat < -2 ^ 31 ∨ 2 ^ 31 ≤ a.toInt - b.toInt - c.toNat)
        c := decide (a.toNat < b.toNat + c.toNat) } := by
  have h1 : (r.toNat : Int) = ((a.toNat : Int) - b.toNat - c.toNat) % 2 ^ 32 := by
    rw [hr, BitVec.toNat_ofInt]; simp; omega
  have ha := a.isLt
  have hb := b.isLt
  have hc : c.toNat ≤ 1 := Bool.toNat_le c
  have z0 : (0 : Word).toNat = 0 := rfl
  simp only [subFlags, Icc.mk.injEq]
  refine ⟨Bool.eq_iff_iff.mpr ?_, Bool.eq_iff_iff.mpr ?_, Bool.eq_iff_iff.mpr ?_, Bool.eq_iff_iff.mpr ?_⟩ <;>
  simp only [word_msb, word_toInt, ← BitVec.toNat_inj, Bool.or_eq_true, Bool.and_eq_true, Bool.not_eq_true',
    decide_eq_true_eq, decide_eq_false_iff_not, z0] <;>
  (try split) <;> (try split) <;> omega

/-- A tag is bad when one of its two bits is set (R324). -/
theorem tagBad_eq (a b : Word) : tagBad a b = decide (a.toNat % 4 ≠ 0 ∨ b.toNat % 4 ≠ 0) := by
  apply Bool.eq_iff_iff.mpr
  simp [tagBad, ← BitVec.toNat_inj, BitVec.extractLsb'_toNat]

/-- The bits given for a NaN do not matter to a result that is no NaN. -/
theorem finish_of_not_exotic (fmt : Format) (rd : BitVec 2) (ufm : Bool) (nan : Nat) (x : Exact)
    (h : (fmt.finish rd ufm 0 x).exotic = false) : fmt.finish rd ufm nan x = fmt.finish rd ufm 0 x := by
  cases x with
  | nan invalid => simp [Format.finish] at h
  | infinity neg flags => rfl
  | zero neg => rfl
  | value neg mant exp => rfl

end Sys2Proof.Machine
end

