-- ==== Sys2Proof/Laws/Fpop.lean ====
section
/-! SUPPORT. What an FPop can do, said once: the f registers it writes, how it fails, and how it ends. And the delay
instruction of a conditional branch across a trap. -/

namespace Sys2Proof.Machine

open Sys2Proof

/-! ## f registers -/

/-- A state whose f registers are those of s after a write of one. -/
theorem writesF_setFreg {s t : State} {r : RegNum} {v : Word} (h : t.f = (s.setFreg r v).f) : writesF s t r v := fun k => by
  rw [freg_congr h, freg_setFreg]

/-- After a write of a pair. -/
theorem writesFPair_setFdouble {s t : State} {r : RegNum} {v : Doubleword} (h : t.f = (s.setFdouble r v).f) :
    writesFPair s t r v := fun k => by
  have hne : r ≠ r + 1 := by simp
  rw [freg_congr h, State.setFdouble, freg_setFreg, freg_setFreg]
  by_cases h1 : k = r
  · rw [h1, if_neg hne, if_pos rfl, if_pos rfl]
  · simp only [h1, if_false]

/-- After a write of a triple. -/
theorem writesFTriple_setFextended {s t : State} {r : RegNum} {v : BitVec 96} (h : t.f = (s.setFextended r v).f) :
    writesFTriple s t r v := fun k => by
  have h01 : r ≠ r + 1 := by simp
  have h02 : r ≠ r + 2 := by simp
  have h12 : r + 1 ≠ r + 2 := by simp
  rw [freg_congr h, State.setFextended, freg_setFreg, freg_setFreg, freg_setFreg]
  by_cases h1 : k = r
  · rw [h1, if_neg h02, if_neg h01, if_pos rfl, if_pos rfl]
  · by_cases h2 : k = r + 1
    · rw [h2, if_neg h12, if_pos rfl, if_neg h01.symm, if_pos rfl]
    · simp only [h1, h2, if_false]

/-! ## The end of an FPop -/

/-- The first exception of those raised is the one of the highest bit. -/
theorem firstException_bit {e : BitVec 5} (h : e ≠ 0) :
    ∃ k, k < 5 ∧ e.getLsbD k = true ∧ firstException e = 1#5 <<< k ∧ ∀ j, k < j → e.getLsbD j = false := by
  have hall : ∀ e : BitVec 5, e ≠ 0 →
      ∃ k, k < 5 ∧ e.getLsbD k = true ∧ firstException e = 1#5 <<< k ∧ ∀ j, j < 5 → k < j → e.getLsbD j = false := by decide
  obtain ⟨k, hk, h1, h2, h3⟩ := hall e h
  refine ⟨k, hk, h1, h2, fun j hj => ?_⟩
  by_cases h5 : j < 5
  · exact h3 j h5 hj
  · exact BitVec.getLsbD_of_ge _ _ (by omega)

/-- cexc after a trapped exception is what R435 and U21 allow. -/
theorem trapCexc_is (s : State) {texc : BitVec 5} (h : texc &&& s.fsr.tem ≠ 0) : trapCexcIs s texc (s.trapCexc texc) := by
  obtain ⟨k, hk, h1, h2, h3⟩ := firstException_bit h
  have bits (j : Nat) (hj : (s.trapCexc texc).getLsbD j = true) :
      (1#5 <<< k).getLsbD j = true ∨ texc.getLsbD j = true ∧ s.fsr.tem.getLsbD j = false := by
    simp only [State.trapCexc, h2, BitVec.getLsbD_or, Bool.or_eq_true] at hj
    refine hj.imp_right fun hj => ?_
    split at hj
    · simp at hj
    · simp only [BitVec.getLsbD_and, BitVec.getLsbD_not, Bool.and_eq_true, Bool.not_eq_true'] at hj
      exact ⟨hj.1.1, hj.1.2.2⟩
  refine ⟨k, hk, h1, ?_, h3, fun j hj hb => (bits j hb).resolve_left fun hs => hj ?_⟩
  · have hbit : (1#5 <<< k).getLsbD k = true := by simp [hk]
    simp only [State.trapCexc, h2, BitVec.getLsbD_or, hbit, Bool.true_or]
  · simp only [BitVec.getLsbD_shiftLeft, Bool.and_eq_true, decide_eq_true_eq, Bool.not_eq_true', decide_eq_false_iff_not,
      BitVec.getLsbD_one] at hs
    omega

/-- An FPop that fails does what R432 says, and nothing else. -/
theorem fpFail_effect (s : State) (w : Word) (ftt : BitVec 3) (cexc : BitVec 5) :
    fpopFails s w ftt cexc ({ s with fsr := { s.fsr with cexc := cexc } }.fpFail w ftt) :=
  ⟨by simp, by simp, by simp, by simp, keepsRegs_of_eq (by simp) (by simp), by simp, ⟨by simp, by simp, by simp⟩, by simp,
    keepsMemory_of_eq (by simp), ⟨by simp, by simp, by simp⟩, by simp [advanced, State.fpFail]⟩

/-- An instruction that is the end of an FPop ends as `fpopEnds` says, where what it writes is what it should. -/
theorem fpComplete_ends {s : State} {i : Instr} {declined : Bool} {texc : BitVec 5} {fcc : BitVec 2} {write : State → State}
    {written : State → Prop} (h : exec i s = fpComplete s (encode i) declined texc write)
    (hw : written (write (s.fpDone texc)).advanceFp) (hd : fpopDone s texc fcc (write (s.fpDone texc)).advanceFp) :
    fpopEnds s i declined texc fcc written := by
  refine ⟨?_, ?_, ?_⟩ <;> rintro rfl <;> rw [h]
  · exact ⟨_, rfl, fpFail_effect s _ 2 s.fsr.cexc⟩
  · intro he; rw [fpComplete_of rfl he]; exact ⟨_, rfl, hw, hd⟩
  · intro he
    refine ⟨s.trapCexc texc, trapCexc_is s he, ?_⟩
    rw [fpComplete, if_neg (by simp), if_pos he]
    exact ⟨_, rfl, fpFail_effect s _ 1 _⟩

/-! ## Delay instructions across a trap -/

/-- After trap entry the delay instructions to resume are those before, with the one the trap was taken at exactly where
it is one. -/
theorem mem_delaysAtTrap (s : State) (d : DelaySlot) :
    d ∈ s.delaysAtTrap ↔ if d = ⟨s.pc, s.npc⟩ then s.prev = .condBranch else d ∈ s.pausedDelays := by
  unfold State.delaysAtTrap
  by_cases hd : d = ⟨s.pc, s.npc⟩ <;> by_cases hp : s.prev = .condBranch <;> simp [hd, hp]

/-- RETT marks the next instruction exactly where it resumes such a delay instruction. -/
theorem returnFromTrap_prev_eq (s : State) (target : Word) (window : BitVec 5) :
    (s.returnFromTrap target window).prev = .condBranch ↔ (⟨s.npc, target⟩ : DelaySlot) ∈ s.pausedDelays := by
  unfold State.returnFromTrap
  by_cases h : (⟨s.npc, target⟩ : DelaySlot) ∈ s.pausedDelays <;> simp [h]

end Sys2Proof.Machine
end

