-- ==== Sys2Proof/Tests/Slice0.lean ====
section
/-! SUPPORT. Tests: ill-formed terms are refused, the words of every instruction decode to it, single steps give
what the spec's tables give, and every statement's hypotheses are met by a state. A word is written from the
encoding tables of `30_encoding.md`; an expected result is copied from the row of `95_test_vectors.md` named
beside it or worked by hand from the rule named. -/

namespace Sys2Proof.Tests

open Sys2Proof Sys2Proof.Machine

set_option Elab.async false

/-! ## WellFormed refuses an odd pair and an extended operand that is odd or runs past f[31] -/

theorem test_illFormed_integer :
    ([
      .ldd 7 4 (.imm 0), .std 7 4 (.imm 0), .ldda 7 4 (.imm 0), .stda 7 4 (.imm 0)
    ] : List Instr).all (fun i => !i.wellFormed) = true := by decide +kernel

theorem test_illFormed_fp :
    ([
      .fsqrtd 7 4 4, .fsqrtd 4 4 7, .faddd 7 4 4, .faddd 4 7 4,
      .faddd 4 4 7, .fsubd 7 4 4, .fsubd 4 7 4, .fsubd 4 4 7,
      .fmuld 7 4 4, .fmuld 4 7 4, .fmuld 4 4 7, .fdivd 7 4 4,
      .fdivd 4 7 4, .fdivd 4 4 7, .fitod 7 4 4, .fdtoi 4 4 7,
      .fstod 7 4 4, .fdtos 4 4 7, .fdtox 4 4 7, .fxtod 7 4 4,
      .fcmpd 4 7 4, .fcmpd 4 4 7, .fcmped 4 7 4, .fcmped 4 4 7,
      .lddf 7 4 (.imm 0), .stdf 7 4 (.imm 0)
    ] : List Instr).all (fun i => !i.wellFormed) = true := by decide +kernel

theorem test_illFormed_cp :
    ([
      .lddc 7 4 (.imm 0), .stdc 7 4 (.imm 0)
    ] : List Instr).all (fun i => !i.wellFormed) = true := by decide +kernel

theorem test_illFormed_extended :
    ([
      .fsqrtx 9 4 4, .fsqrtx 30 4 4, .fsqrtx 4 4 9, .fsqrtx 4 4 30,
      .faddx 9 4 4, .faddx 30 4 4, .faddx 4 9 4, .faddx 4 30 4,
      .faddx 4 4 9, .faddx 4 4 30, .fsubx 9 4 4, .fsubx 30 4 4,
      .fsubx 4 9 4, .fsubx 4 30 4, .fsubx 4 4 9, .fsubx 4 4 30,
      .fmulx 9 4 4, .fmulx 30 4 4, .fmulx 4 9 4, .fmulx 4 30 4,
      .fmulx 4 4 9, .fmulx 4 4 30, .fdivx 9 4 4, .fdivx 30 4 4,
      .fdivx 4 9 4, .fdivx 4 30 4, .fdivx 4 4 9, .fdivx 4 4 30,
      .fitox 9 4 4, .fitox 30 4 4, .fxtoi 4 4 9, .fxtoi 4 4 30,
      .fstox 9 4 4, .fstox 30 4 4, .fdtox 9 4 4, .fdtox 30 4 4,
      .fxtos 4 4 9, .fxtos 4 4 30, .fxtod 4 4 9, .fxtod 4 4 30,
      .fcmpx 4 9 4, .fcmpx 4 30 4, .fcmpx 4 4 9, .fcmpx 4 4 30,
      .fcmpex 4 9 4, .fcmpex 4 30 4, .fcmpex 4 4 9, .fcmpex 4 4 30
    ] : List Instr).all (fun i => !i.wellFormed) = true := by decide +kernel

theorem test_wellFormed_pairs :
    ([.ldd 8 4 (.imm 0), .faddd 30 28 2, .faddx 28 24 0, .fxtod 30 28 28] : List Instr).all Instr.wellFormed = true := by
  decide +kernel

/-! ## Decoding: one word per instruction, from its row of the opcode table and its fields -/

/-- The decoder gives this instruction for this word. -/
def decodes (word : Nat) (i : Instr) : Bool := decide (decodeTableWord 32 word = some i)

theorem test_decode_format1And2 :
    (decodes 0x6ABCDEF0 (.call 0x2abcdef0) && decodes 0x2A2BCDEF (.unimp 21 0x2BCDEF) &&
     decodes 0x2B2BCDEF (.sethi 21 0x2BCDEF)) = true := by decide +kernel

theorem test_decode_bicc :
    (decodes 0x209FFFFE (.bn true 0x1ffffe) && decodes 0x02A00005 (.be false 0x200005) &&
     decodes 0x249FFFFE (.ble true 0x1ffffe) && decodes 0x06A00005 (.bl false 0x200005) &&
     decodes 0x289FFFFE (.bleu true 0x1ffffe) && decodes 0x0AA00005 (.bcs false 0x200005) &&
     decodes 0x2C9FFFFE (.bneg true 0x1ffffe) && decodes 0x0EA00005 (.bvs false 0x200005) &&
     decodes 0x309FFFFE (.ba true 0x1ffffe) && decodes 0x12A00005 (.bne false 0x200005) &&
     decodes 0x349FFFFE (.bg true 0x1ffffe) && decodes 0x16A00005 (.bge false 0x200005) &&
     decodes 0x389FFFFE (.bgu true 0x1ffffe) && decodes 0x1AA00005 (.bcc false 0x200005) &&
     decodes 0x3C9FFFFE (.bpos true 0x1ffffe) && decodes 0x1EA00005 (.bvc false 0x200005)) = true := by decide +kernel

theorem test_decode_fbfcc :
    (decodes 0x219FFFFE (.fbn true 0x1ffffe) && decodes 0x03A00005 (.fbne false 0x200005) &&
     decodes 0x259FFFFE (.fblg true 0x1ffffe) && decodes 0x07A00005 (.fbul false 0x200005) &&
     decodes 0x299FFFFE (.fbl true 0x1ffffe) && decodes 0x0BA00005 (.fbug false 0x200005) &&
     decodes 0x2D9FFFFE (.fbg true 0x1ffffe) && decodes 0x0FA00005 (.fbu false 0x200005) &&
     decodes 0x319FFFFE (.fba true 0x1ffffe) && decodes 0x13A00005 (.fbe false 0x200005) &&
     decodes 0x359FFFFE (.fbue true 0x1ffffe) && decodes 0x17A00005 (.fbge false 0x200005) &&
     decodes 0x399FFFFE (.fbuge true 0x1ffffe) && decodes 0x1BA00005 (.fble false 0x200005) &&
     decodes 0x3D9FFFFE (.fbule true 0x1ffffe) && decodes 0x1FA00005 (.fbo false 0x200005)) = true := by decide +kernel

theorem test_decode_cbccc :
    (decodes 0x21DFFFFE (.cbn true 0x1ffffe) && decodes 0x03E00005 (.cb123 false 0x200005) &&
     decodes 0x25DFFFFE (.cb12 true 0x1ffffe) && decodes 0x07E00005 (.cb13 false 0x200005) &&
     decodes 0x29DFFFFE (.cb1 true 0x1ffffe) && decodes 0x0BE00005 (.cb23 false 0x200005) &&
     decodes 0x2DDFFFFE (.cb2 true 0x1ffffe) && decodes 0x0FE00005 (.cb3 false 0x200005) &&
     decodes 0x31DFFFFE (.cba true 0x1ffffe) && decodes 0x13E00005 (.cb0 false 0x200005) &&
     decodes 0x35DFFFFE (.cb03 true 0x1ffffe) && decodes 0x17E00005 (.cb02 false 0x200005) &&
     decodes 0x39DFFFFE (.cb023 true 0x1ffffe) && decodes 0x1BE00005 (.cb01 false 0x200005) &&
     decodes 0x3DDFFFFE (.cb013 true 0x1ffffe) && decodes 0x1FE00005 (.cb012 false 0x200005)) = true := by decide +kernel

theorem test_decode_arithmetic :
    (decodes 0x94057ABC (.add 10 21 (.imm 0x1ABC)) && decodes 0x940D400D (.and 10 21 (.reg 0 13)) &&
     decodes 0x94157ABC (.or 10 21 (.imm 0x1ABC)) && decodes 0x941D400D (.xor 10 21 (.reg 0 13)) &&
     decodes 0x94257ABC (.sub 10 21 (.imm 0x1ABC)) && decodes 0x942D400D (.andn 10 21 (.reg 0 13)) &&
     decodes 0x94357ABC (.orn 10 21 (.imm 0x1ABC)) && decodes 0x943D400D (.xnor 10 21 (.reg 0 13)) &&
     decodes 0x94457ABC (.addx 10 21 (.imm 0x1ABC)) && decodes 0x9465400D (.subx 10 21 (.reg 0 13)) &&
     decodes 0x94857ABC (.addcc 10 21 (.imm 0x1ABC)) && decodes 0x948D400D (.andcc 10 21 (.reg 0 13)) &&
     decodes 0x94957ABC (.orcc 10 21 (.imm 0x1ABC)) && decodes 0x949D400D (.xorcc 10 21 (.reg 0 13)) &&
     decodes 0x94A57ABC (.subcc 10 21 (.imm 0x1ABC)) && decodes 0x94AD400D (.andncc 10 21 (.reg 0 13)) &&
     decodes 0x94B57ABC (.orncc 10 21 (.imm 0x1ABC)) && decodes 0x94BD400D (.xnorcc 10 21 (.reg 0 13)) &&
     decodes 0x94C57ABC (.addxcc 10 21 (.imm 0x1ABC)) && decodes 0x94E5400D (.subxcc 10 21 (.reg 0 13)) &&
     decodes 0x95057ABC (.taddcc 10 21 (.imm 0x1ABC)) && decodes 0x950D400D (.tsubcc 10 21 (.reg 0 13)) &&
     decodes 0x95157ABC (.taddcctv 10 21 (.imm 0x1ABC)) && decodes 0x951D400D (.tsubcctv 10 21 (.reg 0 13)) &&
     decodes 0x95257ABC (.mulscc 10 21 (.imm 0x1ABC)) && decodes 0x952D400D (.sll 10 21 (.reg 0 13)) &&
     decodes 0x95357ABC (.srl 10 21 (.imm 0x1ABC)) && decodes 0x953D400D (.sra 10 21 (.reg 0 13))) = true := by decide +kernel

theorem test_decode_stateAndControl :
    (decodes 0xA3400000 (.rdy 17 0 0) && decodes 0xA3480000 (.rdpsr 17 0 0) &&
     decodes 0xA3500000 (.rdwim 17 0 0) && decodes 0xA3580000 (.rdtbr 17 0 0) &&
     decodes 0x95857ABC (.wry 10 21 (.imm 0x1ABC)) && decodes 0x958D400D (.wrpsr 10 21 (.reg 0 13)) &&
     decodes 0x95957ABC (.wrwim 10 21 (.imm 0x1ABC)) && decodes 0x959D400D (.wrtbr 10 21 (.reg 0 13)) &&
     decodes 0xA7B1AAB9 (.cpop1 0x155 19 6 25) && decodes 0xA7B9AAB9 (.cpop2 0x155 19 6 25) &&
     decodes 0x95C57ABC (.jmpl 10 21 (.imm 0x1ABC)) && decodes 0x95CD400D (.rett 10 21 (.reg 0 13)) &&
     decodes 0x95DD7ABC (.iflush 10 21 (.imm 0x1ABC)) && decodes 0x95E5400D (.save 10 21 (.reg 0 13)) &&
     decodes 0x95ED7ABC (.restore 10 21 (.imm 0x1ABC))) = true := by decide +kernel

theorem test_decode_fpop :
    (decodes 0x85A6002C (.fmovs 2 24 12) && decodes 0xB9A100B2 (.fnegs 28 4 18) &&
     decodes 0x85A6012C (.fabss 2 24 12) && decodes 0xB9A10532 (.fsqrts 28 4 18) &&
     decodes 0x85A6054C (.fsqrtd 2 24 12) && decodes 0xB9A10572 (.fsqrtx 28 4 18) &&
     decodes 0x85A6082C (.fadds 2 24 12) && decodes 0xB9A10852 (.faddd 28 4 18) &&
     decodes 0x85A6086C (.faddx 2 24 12) && decodes 0xB9A108B2 (.fsubs 28 4 18) &&
     decodes 0x85A608CC (.fsubd 2 24 12) && decodes 0xB9A108F2 (.fsubx 28 4 18) &&
     decodes 0x85A6092C (.fmuls 2 24 12) && decodes 0xB9A10952 (.fmuld 28 4 18) &&
     decodes 0x85A6096C (.fmulx 2 24 12) && decodes 0xB9A109B2 (.fdivs 28 4 18) &&
     decodes 0x85A609CC (.fdivd 2 24 12) && decodes 0xB9A109F2 (.fdivx 28 4 18) &&
     decodes 0x85A6188C (.fitos 2 24 12) && decodes 0xB9A11912 (.fitod 28 4 18) &&
     decodes 0x85A6198C (.fitox 2 24 12) && decodes 0xB9A11A32 (.fstoi 28 4 18) &&
     decodes 0x85A61A4C (.fdtoi 2 24 12) && decodes 0xB9A11A72 (.fxtoi 28 4 18) &&
     decodes 0x85A6192C (.fstod 2 24 12) && decodes 0xB9A119B2 (.fstox 28 4 18) &&
     decodes 0x85A618CC (.fdtos 2 24 12) && decodes 0xB9A119D2 (.fdtox 28 4 18) &&
     decodes 0x85A618EC (.fxtos 2 24 12) && decodes 0xB9A11972 (.fxtod 28 4 18) &&
     decodes 0x85AE0A2C (.fcmps 2 24 12) && decodes 0xB9A90A52 (.fcmpd 28 4 18) &&
     decodes 0x85AE0A6C (.fcmpx 2 24 12) && decodes 0xB9A90AB2 (.fcmpes 28 4 18) &&
     decodes 0x85AE0ACC (.fcmped 2 24 12) && decodes 0xB9A90AF2 (.fcmpex 28 4 18)) = true := by decide +kernel

theorem test_decode_ticc :
    (decodes 0x81D27FF3 (.tn false 9 (.imm 0x1FF3)) && decodes 0x83D24016 (.te false 9 (.reg 0 22)) &&
     decodes 0x85D27FF3 (.tle false 9 (.imm 0x1FF3)) && decodes 0x87D24016 (.tl false 9 (.reg 0 22)) &&
     decodes 0x89D27FF3 (.tleu false 9 (.imm 0x1FF3)) && decodes 0x8BD24016 (.tcs false 9 (.reg 0 22)) &&
     decodes 0x8DD27FF3 (.tneg false 9 (.imm 0x1FF3)) && decodes 0x8FD24016 (.tvs false 9 (.reg 0 22)) &&
     decodes 0x91D27FF3 (.ta false 9 (.imm 0x1FF3)) && decodes 0x93D24016 (.tne false 9 (.reg 0 22)) &&
     decodes 0x95D27FF3 (.tg false 9 (.imm 0x1FF3)) && decodes 0x97D24016 (.tge false 9 (.reg 0 22)) &&
     decodes 0x99D27FF3 (.tgu false 9 (.imm 0x1FF3)) && decodes 0x9BD24016 (.tcc false 9 (.reg 0 22)) &&
     decodes 0x9DD27FF3 (.tpos false 9 (.imm 0x1FF3)) && decodes 0x9FD24016 (.tvc false 9 (.reg 0 22))) = true := by decide +kernel

theorem test_decode_integerMemory :
    (decodes 0xD405400D (.ld 10 21 (.reg 0 13)) && decodes 0xD40D7ABC (.ldub 10 21 (.imm 0x1ABC)) &&
     decodes 0xD415400D (.lduh 10 21 (.reg 0 13)) && decodes 0xD41D7ABC (.ldd 10 21 (.imm 0x1ABC)) &&
     decodes 0xD425400D (.st 10 21 (.reg 0 13)) && decodes 0xD42D7ABC (.stb 10 21 (.imm 0x1ABC)) &&
     decodes 0xD435400D (.sth 10 21 (.reg 0 13)) && decodes 0xD43D7ABC (.std 10 21 (.imm 0x1ABC)) &&
     decodes 0xD44D400D (.ldsb 10 21 (.reg 0 13)) && decodes 0xD4557ABC (.ldsh 10 21 (.imm 0x1ABC)) &&
     decodes 0xD46D400D (.ldstub 10 21 (.reg 0 13)) && decodes 0xD47D7ABC (.swap 10 21 (.imm 0x1ABC))) = true := by decide +kernel

theorem test_decode_alternateMemory :
    (decodes 0xD48554AD (.lda 10 21 (.reg 0xA5 13)) && decodes 0xD48D54AD (.lduba 10 21 (.reg 0xA5 13)) &&
     decodes 0xD49554AD (.lduha 10 21 (.reg 0xA5 13)) && decodes 0xD49D54AD (.ldda 10 21 (.reg 0xA5 13)) &&
     decodes 0xD4A554AD (.sta 10 21 (.reg 0xA5 13)) && decodes 0xD4AD54AD (.stba 10 21 (.reg 0xA5 13)) &&
     decodes 0xD4B554AD (.stha 10 21 (.reg 0xA5 13)) && decodes 0xD4BD54AD (.stda 10 21 (.reg 0xA5 13)) &&
     decodes 0xD4CD54AD (.ldsba 10 21 (.reg 0xA5 13)) && decodes 0xD4D554AD (.ldsha 10 21 (.reg 0xA5 13)) &&
     decodes 0xD4ED54AD (.ldstuba 10 21 (.reg 0xA5 13)) && decodes 0xD4FD54AD (.swapa 10 21 (.reg 0xA5 13))) = true := by decide +kernel

theorem test_decode_unitMemory :
    (decodes 0xD505400D (.ldf 10 21 (.reg 0 13)) && decodes 0xD50D7ABC (.ldfsr 10 21 (.imm 0x1ABC)) &&
     decodes 0xD51D400D (.lddf 10 21 (.reg 0 13)) && decodes 0xD5257ABC (.stf 10 21 (.imm 0x1ABC)) &&
     decodes 0xD52D400D (.stfsr 10 21 (.reg 0 13)) && decodes 0xD5357ABC (.stdfq 10 21 (.imm 0x1ABC)) &&
     decodes 0xD53D400D (.stdf 10 21 (.reg 0 13)) && decodes 0xD5857ABC (.ldc 10 21 (.imm 0x1ABC)) &&
     decodes 0xD58D400D (.ldcsr 10 21 (.reg 0 13)) && decodes 0xD59D7ABC (.lddc 10 21 (.imm 0x1ABC)) &&
     decodes 0xD5A5400D (.stc 10 21 (.reg 0 13)) && decodes 0xD5AD7ABC (.stcsr 10 21 (.imm 0x1ABC)) &&
     decodes 0xD5B5400D (.stdcq 10 21 (.reg 0 13)) && decodes 0xD5BD7ABC (.stdc 10 21 (.imm 0x1ABC))) = true := by decide +kernel

/-- Words of `95_test_vectors.md` section 2.1. -/
theorem test_decode_vectors :
    (decodes 0x40000002 (.call 2) && decodes 0x7FFFFFFF (.call (-1)) && decodes 0x033FFFFF (.sethi 1 0x3FFFFF) &&
     decodes 0x1304488C (.sethi 9 0x04488C) && decodes 0x00000000 (.unimp 0 0) && decodes 0x86004002 (.add 3 1 (.reg 0 2)) &&
     decodes 0x86007FFF (.add 3 1 (.imm (-1))) && decodes 0x86007000 (.add 3 1 (.imm (-4096))) &&
     decodes 0x932A201F (.sll 9 8 (.imm 31)) && decodes 0xD202000A (.ld 9 8 (.reg 0 10)) &&
     decodes 0xD2820160 (.lda 9 8 (.reg 0x0B 0)) && decodes 0xFE23A03C (.st 31 14 (.imm 60)) && decodes 0x91D02000 (.ta false 0 (.imm 0)) &&
     decodes 0x93D20009 (.tne false 8 (.reg 0 9)) && decodes 0x20800000 (.bn true 0) && decodes 0x04A00000 (.ble false 0x200000) &&
     decodes 0x87A04822 (.fadds 3 1 2) && decodes 0x81A88AC4 (.fcmped 0 2 4) && decodes 0x81A0003F (.fmovs 0 0 31) &&
     decodes 0x81B03FE0 (.cpop1 0x1FF 0 0 0) && decodes 0xA1480000 (.rdpsr 16 0 0) && decodes 0x818C2020 (.wrpsr 0 16 (.imm 0x20)) &&
     decodes 0x9DE3BFA0 (.save 14 14 (.imm (-96))) && decodes 0x81E80000 (.restore 0 0 (.reg 0 0)) &&
     decodes 0x81DA2004 (.iflush 0 8 (.imm 4)) && decodes 0x81C7E008 (.jmpl 0 31 (.imm 8))) = true := by decide +kernel

/-- Words that name no instruction (`95_test_vectors.md` section 2.1, `30_encoding.md` R151, R170, R172). -/
theorem test_decode_rejects :
    (decide (decode 0x81F00000#32 = .error (.unassignedOp3 2 0x3E)) && decide (decode 0xC1780000#32 = .error (.unassignedOp3 3 0x2F)) &&
     decide (decode 0x00400000#32 = .error (.unassignedOp2 1)) && decide (decode 0x81A00000#32 = .error (.unassignedOpf 0x34 0)) &&
     decide (decode 0x81A80FE0#32 = .error (.unassignedOpf 0x35 0x07F)) && decide (decodeTableWord 32 0x81F00000 = none)) = true := by
  decide +kernel

/-! ## Single steps -/

/-- Supervisor mode with traps and both units enabled, window 0, trap table at 0x8000 (`95_test_vectors.md` section
2.2), extended precision and a coprocessor present. -/
def base : State :=
  { State.reset with
    pc := 0x100, npc := 0x104, tbr := 0x8000, psr := { Psr.reset with et := true, ef := true, ec := true }
    platform := { Platform.default with cpPresent := true, extendedImplemented := true } }

/-- `base` in user mode. -/
def user : State := { base with psr := { base.psr with s := false } }

/-- The flags n z v c of a state. -/
def flagged (n z v c : Bool) : State := { base with psr := { base.psr with icc := ⟨n, z, v, c⟩ } }

/-- The state with r[8] (%o0) = a and r[9] (%o1) = b. -/
def with89 (s : State) (a b : Word) : State := (s.setReg 8 a).setReg 9 b

/-- The memory of `95_test_vectors.md` section 2.2: 11 80 F3 44 FF 00 7F FE at 0x4000; %o0 = 0x4000. -/
def stored : State := ((with89 base 0x4000 0xAABBCCDD).placeWord 0 0x4000 0x1180F344).placeWord 0 0x4004 0xFF007FFE

/-- f[1] = a, f[2] = b, rounding direction rd, TEM. -/
def fpState (rd : BitVec 2) (tem : BitVec 5) (a b : Word) : State :=
  { (base.setFreg 1 a).setFreg 2 b with fsr := { Fsr.reset with rd := rd, tem := tem } }

/-- A step at a state with this word at PC answers a next state with this property. -/
def after (s : State) (word : Nat) (p : State → Bool) : Bool :=
  match step (s.withFetchWord 32 word) with
  | .next t => p t
  | _ => false

/-- The state is the one after a trap of type tt taken at PC 0x100 in window 0 (`95_test_vectors.md` section 2.2). -/
def trappedWith (tt : Nat) (t : State) : Bool :=
  decide (t.pc.toNat = 0x8000 + 16 * tt) && decide (t.reg 17 = 0x100) && decide (t.reg 18 = 0x104) && decide (t.psr.cwp = 7) &&
  !t.psr.et && t.psr.s

/-! Section 2.2: loads and stores. -/

theorem test_ld : (after stored 0xD2020000 fun t =>
    decide (t.reg 9 = 0x1180F344) && decide (t.pc = 0x104) && decide (t.npc = 0x108)) = true := by decide +kernel

theorem test_ldsb : (after stored 0xD24A2001 fun t =>
    decide (t.reg 9 = 0xFFFFFF80) && decide (t.pc = 0x104) && decide (t.npc = 0x108)) = true := by decide +kernel

theorem test_ldub : (after stored 0xD20A2001 fun t =>
    decide (t.reg 9 = 0x80) && decide (t.pc = 0x104) && decide (t.npc = 0x108)) = true := by decide +kernel

theorem test_lduh : (after stored 0xD2122002 fun t =>
    decide (t.reg 9 = 0xF344) && decide (t.pc = 0x104) && decide (t.npc = 0x108)) = true := by decide +kernel

theorem test_ldsh : (after stored 0xD2522002 fun t =>
    decide (t.reg 9 = 0xFFFFF344) && decide (t.pc = 0x104) && decide (t.npc = 0x108)) = true := by decide +kernel

theorem test_ldd : (after stored 0xD41A0000 fun t =>
    decide (t.reg 10 = 0x1180F344) && decide (t.reg 11 = 0xFF007FFE)) = true := by decide +kernel

theorem test_st : (after stored 0xD2220000 fun t =>
    decide (t.mem.word 0 0x4000 = 0xAABBCCDD) && decide (t.mem.word 0 0x4004 = 0xFF007FFE)) = true := by decide +kernel

theorem test_sth : (after stored 0xD2322002 fun t =>
    decide (t.mem.word 0 0x4000 = 0x1180CCDD)) = true := by decide +kernel

theorem test_stb : (after stored 0xD22A2001 fun t =>
    decide (t.mem.word 0 0x4000 = 0x11DDF344)) = true := by decide +kernel

theorem test_std : (after ((stored.setReg 10 0x01020304).setReg 11 0x05060708) 0xD43A0000 fun t =>
    decide (t.mem.double 0 0x4000 = 0x0102030405060708)) = true := by decide +kernel

theorem test_ldstub : (after stored 0xD26A2001 fun t =>
    decide (t.reg 9 = 0x80) && decide (t.mem.word 0 0x4000 = 0x11FFF344)) = true := by decide +kernel

theorem test_swap : (after stored 0xD27A0000 fun t =>
    decide (t.reg 9 = 0x1180F344) && decide (t.mem.word 0 0x4000 = 0xAABBCCDD)) = true := by decide +kernel

theorem test_ld_misaligned : (after stored 0xD2022002 fun t =>
    trappedWith 0x07 t) = true := by decide +kernel

theorem test_lda_user : (after { stored with psr := user.psr } 0xD2820140 fun t =>
    trappedWith 0x03 t) = true := by decide +kernel

theorem test_lda_immediate : (after { stored with psr := user.psr } 0xD2822000 fun t =>
    trappedWith 0x02 t) = true := by decide +kernel

theorem test_lda : (after stored 0xD2820140 fun t =>
    decide (t.reg 9 = 0x1180F344)) = true := by decide +kernel

theorem test_ldd_odd :
    (match step (stored.withFetchWord 32 0xD21A0000) with
     | .refused r => decide (r = .oddRegister 9)
     | _ => false) = true := by decide +kernel

/-! Section 2.3: arithmetic, logic, shifts; %o0 op %o1 into %o2, the words by R133 and R152. -/

theorem test_addcc : (after (with89 (flagged false false false false) 0x7FFFFFFF 0x1) 0x94820009 fun t =>
    decide (t.reg 10 = 0x80000000) && decide (t.psr.icc = ⟨true, false, true, false⟩)) = true := by decide +kernel

theorem test_addcc_carry : (after (with89 (flagged false false false false) 0x80000000 0x80000000) 0x94820009 fun t =>
    decide (t.reg 10 = 0x0) && decide (t.psr.icc = ⟨false, true, true, true⟩)) = true := by decide +kernel

theorem test_addxcc : (after (with89 (flagged false false false true) 0xFFFFFFFF 0xFFFFFFFF) 0x94C20009 fun t =>
    decide (t.reg 10 = 0xFFFFFFFF) && decide (t.psr.icc = ⟨true, false, false, true⟩)) = true := by decide +kernel

theorem test_subcc : (after (with89 (flagged false false false false) 0x7FFFFFFF 0xFFFFFFFF) 0x94A20009 fun t =>
    decide (t.reg 10 = 0x80000000) && decide (t.psr.icc = ⟨true, false, true, true⟩)) = true := by decide +kernel

theorem test_subxcc : (after (with89 (flagged false false false true) 0x0 0xFFFFFFFF) 0x94E20009 fun t =>
    decide (t.reg 10 = 0x0) && decide (t.psr.icc = ⟨false, true, false, true⟩)) = true := by decide +kernel

theorem test_andcc : (after (with89 (flagged false false false true) 0xF0F0F0F0 0xFF00FF00) 0x948A0009 fun t =>
    decide (t.reg 10 = 0xF000F000) && decide (t.psr.icc = ⟨true, false, false, false⟩)) = true := by decide +kernel

theorem test_andncc : (after (with89 (flagged false false false true) 0xF0F0F0F0 0xFF00FF00) 0x94AA0009 fun t =>
    decide (t.reg 10 = 0xF000F0) && decide (t.psr.icc = ⟨false, false, false, false⟩)) = true := by decide +kernel

theorem test_orcc : (after (with89 (flagged false false false true) 0xF0F0F0F0 0xFF00FF00) 0x94920009 fun t =>
    decide (t.reg 10 = 0xFFF0FFF0) && decide (t.psr.icc = ⟨true, false, false, false⟩)) = true := by decide +kernel

theorem test_orncc : (after (with89 (flagged false false false true) 0xF0F0F0F0 0xFF00FF00) 0x94B20009 fun t =>
    decide (t.reg 10 = 0xF0FFF0FF) && decide (t.psr.icc = ⟨true, false, false, false⟩)) = true := by decide +kernel

theorem test_xorcc : (after (with89 (flagged false false false true) 0x12345678 0x12345678) 0x949A0009 fun t =>
    decide (t.reg 10 = 0x0) && decide (t.psr.icc = ⟨false, true, false, false⟩)) = true := by decide +kernel

theorem test_xnorcc : (after (with89 (flagged false false false true) 0xF0F0F0F0 0xFF00FF00) 0x94BA0009 fun t =>
    decide (t.reg 10 = 0xF00FF00F) && decide (t.psr.icc = ⟨true, false, false, false⟩)) = true := by decide +kernel

theorem test_taddcc : (after (with89 (flagged false false false false) 0x3 0xFFFFFFFD) 0x95020009 fun t =>
    decide (t.reg 10 = 0x0) && decide (t.psr.icc = ⟨false, true, true, true⟩)) = true := by decide +kernel

theorem test_tsubcc : (after (with89 (flagged false false false false) 0x80000000 0x4) 0x950A0009 fun t =>
    decide (t.reg 10 = 0x7FFFFFFC) && decide (t.psr.icc = ⟨false, false, true, false⟩)) = true := by decide +kernel

theorem test_taddcctv : (after (with89 (flagged false false false false) 0x4 0x8) 0x95120009 fun t =>
    decide (t.reg 10 = 0xC) && decide (t.psr.icc = ⟨false, false, false, false⟩)) = true := by decide +kernel

theorem test_tsubcctv : (after (with89 (flagged false false false false) 0x8 0x4) 0x951A0009 fun t =>
    decide (t.reg 10 = 0x4) && decide (t.psr.icc = ⟨false, false, false, false⟩)) = true := by decide +kernel

theorem test_add : (after (with89 (flagged false false false false) 0xFFFFFFFF 0x1) 0x94020009 fun t =>
    decide (t.reg 10 = 0x0) && decide (t.psr.icc = ⟨false, false, false, false⟩)) = true := by decide +kernel

theorem test_addx : (after (with89 (flagged false false false true) 0x7FFFFFFF 0x0) 0x94420009 fun t =>
    decide (t.reg 10 = 0x80000000) && decide (t.psr.icc = ⟨false, false, false, true⟩)) = true := by decide +kernel

theorem test_sub : (after (with89 (flagged false false false false) 0x0 0x1) 0x94220009 fun t =>
    decide (t.reg 10 = 0xFFFFFFFF) && decide (t.psr.icc = ⟨false, false, false, false⟩)) = true := by decide +kernel

theorem test_subx : (after (with89 (flagged false false false true) 0x80000000 0x0) 0x94620009 fun t =>
    decide (t.reg 10 = 0x7FFFFFFF) && decide (t.psr.icc = ⟨false, false, false, true⟩)) = true := by decide +kernel

theorem test_and : (after (with89 (flagged false false false false) 0xF0F0F0F0 0xFF00FF00) 0x940A0009 fun t =>
    decide (t.reg 10 = 0xF000F000) && decide (t.psr.icc = ⟨false, false, false, false⟩)) = true := by decide +kernel

theorem test_andn : (after (with89 (flagged false false false false) 0xF0F0F0F0 0xFF00FF00) 0x942A0009 fun t =>
    decide (t.reg 10 = 0xF000F0) && decide (t.psr.icc = ⟨false, false, false, false⟩)) = true := by decide +kernel

theorem test_or : (after (with89 (flagged false false false false) 0xF0F0F0F0 0xFF00FF00) 0x94120009 fun t =>
    decide (t.reg 10 = 0xFFF0FFF0) && decide (t.psr.icc = ⟨false, false, false, false⟩)) = true := by decide +kernel

theorem test_orn : (after (with89 (flagged false false false false) 0xF0F0F0F0 0xFF00FF00) 0x94320009 fun t =>
    decide (t.reg 10 = 0xF0FFF0FF) && decide (t.psr.icc = ⟨false, false, false, false⟩)) = true := by decide +kernel

theorem test_xor : (after (with89 (flagged false false false false) 0xF0F0F0F0 0xFF00FF00) 0x941A0009 fun t =>
    decide (t.reg 10 = 0xFF00FF0) && decide (t.psr.icc = ⟨false, false, false, false⟩)) = true := by decide +kernel

theorem test_xnor : (after (with89 (flagged false false false false) 0xF0F0F0F0 0xFF00FF00) 0x943A0009 fun t =>
    decide (t.reg 10 = 0xF00FF00F) && decide (t.psr.icc = ⟨false, false, false, false⟩)) = true := by decide +kernel

theorem test_sll : (after (with89 (flagged false false false false) 0x1 0xFFFFFFE4) 0x952A0009 fun t =>
    decide (t.reg 10 = 0x10) && decide (t.psr.icc = ⟨false, false, false, false⟩)) = true := by decide +kernel

theorem test_sll_32 : (after (with89 (flagged false false false false) 0x12345678 0x20) 0x952A0009 fun t =>
    decide (t.reg 10 = 0x12345678) && decide (t.psr.icc = ⟨false, false, false, false⟩)) = true := by decide +kernel

theorem test_srl : (after (with89 (flagged false false false false) 0x80000000 0x1F) 0x95320009 fun t =>
    decide (t.reg 10 = 0x1) && decide (t.psr.icc = ⟨false, false, false, false⟩)) = true := by decide +kernel

theorem test_sra : (after (with89 (flagged false false false false) 0x80000000 0x4) 0x953A0009 fun t =>
    decide (t.reg 10 = 0xF8000000) && decide (t.psr.icc = ⟨false, false, false, false⟩)) = true := by decide +kernel

theorem test_sra_63 : (after (with89 (flagged false false false false) 0xFFFFFFFF 0x3F) 0x953A0009 fun t =>
    decide (t.reg 10 = 0xFFFFFFFF) && decide (t.psr.icc = ⟨false, false, false, false⟩)) = true := by decide +kernel

theorem test_taddcctv_traps : (after (with89 base 4 1) 0x95120009 fun t =>
    trappedWith 0x0A t && decide (t.regIn 0 10 = 0) && decide (t.psr.icc = ⟨false, false, false, false⟩)) = true := by decide +kernel

theorem test_tsubcctv_traps : (after (with89 base 8 5) 0x951A0009 fun t =>
    trappedWith 0x0A t) = true := by decide +kernel

/-- Section 2.4. -/
theorem test_mulscc : (after { with89 (flagged true false false false) 0x3 0x5 with y := 0x1 } 0x95220009 fun t =>
    decide (t.reg 10 = 0x80000006) && decide (t.y = 0x80000000) && decide (t.psr.icc = ⟨true, false, false, false⟩)) = true := by decide +kernel

/-- Section 2.4. -/
theorem test_mulscc_carry : (after { with89 (flagged true false true false) 0xFFFFFFFE 0xFFFFFFFF with y := 0x3 } 0x95220009 fun t =>
    decide (t.reg 10 = 0x7FFFFFFE) && decide (t.y = 0x1) && decide (t.psr.icc = ⟨false, false, false, true⟩)) = true := by decide +kernel

theorem test_sethi : (after base 0x033FFFFF fun t =>
    decide (t.reg 1 = 0xFFFFFC00)) = true := by decide +kernel

/-! Section 2.5: branches at PC 0x1000, disp22 = 4. -/

/-- PC and nPC after a word at 0x1000 with these flags. -/
def branchTo (z : Bool) (word pc npc : Nat) : Bool :=
  after { flagged false z false false with pc := 0x1000, npc := 0x1004 } word fun t =>
    decide (t.pc.toNat = pc) && decide (t.npc.toNat = npc)

theorem test_be :
    (branchTo true 0x02800004 0x1004 0x1010 && branchTo true 0x22800004 0x1004 0x1010 && branchTo false 0x02800004 0x1004 0x1008 && branchTo false 0x22800004 0x1008 0x100C) = true := by decide +kernel

theorem test_ba :
    (branchTo false 0x10800004 0x1004 0x1010 && branchTo false 0x30800004 0x1010 0x1014 && branchTo false 0x10BFFFFF 0x1004 0xFFC) = true := by decide +kernel

theorem test_bn :
    (branchTo false 0x00800004 0x1004 0x1008 && branchTo false 0x20800004 0x1008 0x100C) = true := by decide +kernel

/-- Taken or not under the eight settings of the flags, a row of the table of section 2.5. -/
def taken (cond : BitVec 4) : List Bool :=
  [⟨false, false, false, false⟩, ⟨false, true, false, false⟩, ⟨true, false, false, false⟩, ⟨false, false, true, false⟩,
   ⟨false, false, false, true⟩, ⟨true, false, true, false⟩, ⟨true, false, false, true⟩, ⟨false, true, false, true⟩].map (iccTest cond)

theorem test_conditions_low :
    (decide (taken 0 = [false, false, false, false, false, false, false, false]) &&
     decide (taken 1 = [false, true, false, false, false, false, false, true]) &&
     decide (taken 2 = [false, true, true, true, false, false, true, true]) &&
     decide (taken 3 = [false, false, true, true, false, false, true, false]) &&
     decide (taken 4 = [false, true, false, false, true, false, true, true]) &&
     decide (taken 5 = [false, false, false, false, true, false, true, true]) &&
     decide (taken 6 = [false, false, true, false, false, true, true, false]) &&
     decide (taken 7 = [false, false, false, true, false, true, false, false])) = true := by decide +kernel

theorem test_conditions_high :
    (decide (taken 8 = [true, true, true, true, true, true, true, true]) &&
     decide (taken 9 = [true, false, true, true, true, true, true, false]) &&
     decide (taken 10 = [true, false, false, false, true, true, false, false]) &&
     decide (taken 11 = [true, true, false, false, true, true, false, true]) &&
     decide (taken 12 = [true, false, true, true, false, true, false, false]) &&
     decide (taken 13 = [true, true, true, true, false, true, false, false]) &&
     decide (taken 14 = [true, true, false, true, true, false, false, true]) &&
     decide (taken 15 = [true, true, true, false, true, false, true, true])) = true := by decide +kernel

/-! Section 2.6: CALL, JMPL, RETT, Ticc, at PC 0x2000. -/

/-- `base` at 0x2000. -/
def at2000 : State := { base with pc := 0x2000, npc := 0x2004 }

theorem test_call : (after at2000 0x40000040 fun t =>
    decide (t.reg 15 = 0x2000) && decide (t.pc = 0x2004) && decide (t.npc = 0x2100)) = true := by decide +kernel

theorem test_jmpl : (after (at2000.setReg 9 0x3000) 0x93C24000 fun t =>
    decide (t.reg 9 = 0x2000) && decide (t.npc = 0x3000)) = true := by decide +kernel

theorem test_jmpl_misaligned : (after (base.setReg 9 0x3002) 0x9FC24000 fun t =>
    trappedWith 0x07 t && decide (t.regIn 0 15 = 0)) = true := by decide +kernel

theorem test_te : (after { at2000 with psr := (flagged false true false false).psr } 0x83D02010 fun t =>
    decide (t.pc = 0x8900) && decide (t.reg 17 = 0x2000) && decide (t.reg 18 = 0x2004) && decide (ttOf t.tbr = 0x90)) = true := by decide +kernel

theorem test_tn : (after at2000 0x81D02010 fun t =>
    decide (t.pc = 0x2004) && decide (t.npc = 0x2008)) = true := by decide +kernel

theorem test_ta_minus : (after base 0x91D03FFF fun t =>
    trappedWith 0xFF t) = true := by decide +kernel

/-- The RETT rows: in the handler of window 7 at 0x8834, nPC 0x24. -/
def handler (s et : Bool) (wim l2 : Word) : State :=
  { base with pc := 0x8834, npc := 0x24, wim := wim, psr := { base.psr with s := s, et := et, cwp := 7 } }.setReg 18 l2

theorem test_rett : (after (handler true false 2 0x24) 0x81CCA004 fun t =>
    decide (t.pc = 0x24) && decide (t.npc = 0x28) && decide (t.psr.cwp = 0) && !t.psr.s && t.psr.et) = true := by decide +kernel

theorem test_rett_error : (after (handler true false 1 0x24) 0x81CCA004 fun t =>
    t.errorMode && decide (ttOf t.tbr = 0x06) && decide (t.pc = 0x8834) && decide (t.psr = (handler true false 1 0x24).psr)) = true := by decide +kernel

/-- R363: an interrupt at the delay instruction of a conditional branch. -/
theorem test_delay_interrupted :
    (match step { base with prev := .condBranch, inputs := [⟨false, 15⟩] } with
     | .next t => decide (t.prev = .other) && decide (t.pausedDelays = [⟨0x100, 0x104⟩])
     | _ => false) = true := by decide +kernel

/-- R363: the RETT that resumes it. -/
theorem test_rett_resumes_delay : (after { handler true false 2 0x24 with pausedDelays := [⟨0x24, 0x28⟩] } 0x81CCA004 fun t =>
    decide (t.prev = .condBranch) && decide (t.pausedDelays = [])) = true := by decide +kernel

/-! Section 2.7: windows. -/

theorem test_save : (after { (base.setCwp 3).setReg 14 0x7F00 with wim := 2 } 0x9DE3BFA0 fun t =>
    decide (t.psr.cwp = 2) && decide (t.reg 14 = 0x7EA0) && decide (t.reg 30 = 0x7F00)) = true := by decide +kernel

theorem test_save_overflow : (after { base.setCwp 2 with wim := 2 } 0x9DE3BFA0 fun t =>
    decide (ttOf t.tbr = 0x05) && decide (t.psr.cwp = 1) && decide (t.pc = 0x8050)) = true := by decide +kernel

theorem test_restore : (after { ((base.setCwp 7).setReg 24 40).setReg 25 2 with wim := 2 } 0x91EE0019 fun t =>
    decide (t.psr.cwp = 0) && decide (t.reg 8 = 42)) = true := by decide +kernel

/-! Section 2.8: state registers. -/

theorem test_wrpsr : (after base 0x81882FE7 fun t =>
    decide (t.psr = { Psr.reset with pil := 15, s := true, ps := true, et := true, cwp := 7 })) = true := by decide +kernel

theorem test_wrpsr_window : (after base 0x81882088 fun t =>
    trappedWith 0x02 t) = true := by decide +kernel

theorem test_wrwim : (after base 0x81903FFF fun t =>
    decide (t.wim = 0xFF)) = true := by decide +kernel

theorem test_wrtbr : (after (base.setReg 1 0x12345000) 0x81986FFF fun t =>
    decide (t.tbr = 0x12345000)) = true := by decide +kernel

theorem test_wry : (after (user.setReg 8 0xDEADBEEF) 0x81800008 fun t =>
    decide (t.y = 0xDEADBEEF)) = true := by decide +kernel

theorem test_rdy : (after { user with y := 0xDEADBEEF } 0x93400000 fun t =>
    decide (t.reg 9 = 0xDEADBEEF)) = true := by decide +kernel

theorem test_rdwim : (after { base with wim := 0xFF } 0xA1500000 fun t =>
    decide (t.reg 16 = 0xFF)) = true := by decide +kernel

theorem test_rdtbr : (after base 0xA1580000 fun t =>
    decide (t.reg 16 = 0x8000)) = true := by decide +kernel

theorem test_rdpsr_user : (after user 0xA1480000 fun t =>
    trappedWith 0x03 t) = true := by decide +kernel

theorem test_unimp : (after base 0x00000123 fun t =>
    trappedWith 0x02 t) = true := by decide +kernel

theorem test_iflush : (after { base with platform := { base.platform with ift := false } } 0x81DA2004 fun t =>
    trappedWith 0x02 t) = true := by decide +kernel

/-! Section 2.9: floating point; f[1] op f[2] into f[3] (rs2 = 2 for one operand). -/

theorem test_fadds : (after (fpState 0 0 0x3F800000 0x33800000) 0x87A04822 fun t =>
    decide (t.freg 3 = 0x3F800000) && decide (t.fsr.cexc = 0x1) && decide (t.fsr.aexc = 0x1)) = true := by decide +kernel

theorem test_fadds_up : (after (fpState 2 0 0x3F800000 0x33800000) 0x87A04822 fun t =>
    decide (t.freg 3 = 0x3F800001) && decide (t.fsr.cexc = 0x1) && decide (t.fsr.aexc = 0x1)) = true := by decide +kernel

theorem test_fsubs : (after (fpState 3 0 0xBF800000 0x33800000) 0x87A048A2 fun t =>
    decide (t.freg 3 = 0xBF800001) && decide (t.fsr.cexc = 0x1) && decide (t.fsr.aexc = 0x1)) = true := by decide +kernel

theorem test_fmuls : (after (fpState 0 0 0x7F7FFFFF 0x40000000) 0x87A04922 fun t =>
    decide (t.freg 3 = 0x7F800000) && decide (t.fsr.cexc = 0x9) && decide (t.fsr.aexc = 0x9)) = true := by decide +kernel

theorem test_fmuls_denormal : (after (fpState 0 0 0x800000 0x3F000000) 0x87A04922 fun t =>
    decide (t.freg 3 = 0x400000) && decide (t.fsr.cexc = 0x0) && decide (t.fsr.aexc = 0x0)) = true := by decide +kernel

theorem test_fdivs : (after (fpState 0 0 0x3F800000 0x40400000) 0x87A049A2 fun t =>
    decide (t.freg 3 = 0x3EAAAAAB) && decide (t.fsr.cexc = 0x1) && decide (t.fsr.aexc = 0x1)) = true := by decide +kernel

theorem test_fdivs_zero : (after (fpState 0 0 0xBF800000 0x0) 0x87A049A2 fun t =>
    decide (t.freg 3 = 0xFF800000) && decide (t.fsr.cexc = 0x2) && decide (t.fsr.aexc = 0x2)) = true := by decide +kernel

theorem test_fsqrts : (after (fpState 0 0 0x0 0x40000000) 0x87A04522 fun t =>
    decide (t.freg 3 = 0x3FB504F3) && decide (t.fsr.cexc = 0x1) && decide (t.fsr.aexc = 0x1)) = true := by decide +kernel

theorem test_fmovs : (after (fpState 0 0 0x0 0x7F800001) 0x87A04022 fun t =>
    decide (t.freg 3 = 0x7F800001) && decide (t.fsr.cexc = 0x0) && decide (t.fsr.aexc = 0x0)) = true := by decide +kernel

theorem test_fnegs : (after (fpState 0 0 0x0 0x7F800001) 0x87A040A2 fun t =>
    decide (t.freg 3 = 0xFF800001) && decide (t.fsr.cexc = 0x0) && decide (t.fsr.aexc = 0x0)) = true := by decide +kernel

theorem test_fabss : (after (fpState 0 0 0x0 0xFF800001) 0x87A04122 fun t =>
    decide (t.freg 3 = 0x7F800001) && decide (t.fsr.cexc = 0x0) && decide (t.fsr.aexc = 0x0)) = true := by decide +kernel

theorem test_fitos : (after (fpState 2 0 0x0 0x1000001) 0x87A05882 fun t =>
    decide (t.freg 3 = 0x4B800001) && decide (t.fsr.cexc = 0x1) && decide (t.fsr.aexc = 0x1)) = true := by decide +kernel

theorem test_fstoi : (after (fpState 0 0 0x0 0xC0300000) 0x87A05A22 fun t =>
    decide (t.freg 3 = 0xFFFFFFFE) && decide (t.fsr.cexc = 0x1) && decide (t.fsr.aexc = 0x1)) = true := by decide +kernel

theorem test_fitod : (after (fpState 0 0 0 0xFFFFFFFF) 0x89A05902 fun t =>
    decide (t.fdouble 4 = 0xBFF0000000000000) && decide (t.fsr.cexc = 0)) = true := by decide +kernel

theorem test_fstod : (after (fpState 0 0 0 0x3FC00000) 0x89A05922 fun t =>
    decide (t.fdouble 4 = 0x3FF8000000000000) && decide (t.fsr.cexc = 0)) = true := by decide +kernel

theorem test_fdtos : (after (base.setFdouble 2 0x7E37E43C8800759C) 0x87A058C2 fun t =>
    decide (t.freg 3 = 0x7F800000) && decide (t.fsr.cexc = 9)) = true := by decide +kernel

theorem test_faddd : (after ((base.setFdouble 2 0x3FB999999999999A).setFdouble 4 0x3FC999999999999A) 0x8DA08844 fun t =>
    decide (t.fdouble 6 = 0x3FD3333333333334) && decide (t.fsr.cexc = 1)) = true := by decide +kernel

theorem test_fcmps : (after (fpState 0 0 0x3F800000 0x40000000) 0x81A84A22 fun t =>
    decide (t.fsr.fcc = 1) && decide (t.fsr.cexc = 0x0)) = true := by decide +kernel

theorem test_fcmps_nan : (after (fpState 0 0 0x7F800001 0x3F800000) 0x81A84A22 fun t =>
    decide (t.fsr.fcc = 3) && decide (t.fsr.cexc = 0x10)) = true := by decide +kernel

theorem test_fcmpes : (after (fpState 0 0 0x7FC00000 0x3F800000) 0x81A84AA2 fun t =>
    decide (t.fsr.fcc = 3) && decide (t.fsr.cexc = 0x10)) = true := by decide +kernel

/-- The sequence vector, step (1). -/
theorem test_fdivs_trapping : (after (fpState 0 2 0x3F800000 0) 0x87A049A2 fun t =>
    decide (t.freg 3 = 0) && decide (t.fsr.ftt = 1) && decide (t.fsr.cexc = 2) && decide (t.fsr.aexc = 0) && t.fsr.qne && decide (t.fq = [⟨0x100, 0x87A049A2⟩]) && decide (t.fpuMode = .exceptionPending) && decide (t.pc = 0x104)) = true := by decide +kernel

/-- The FPU with an exception pending from a trapping FDIVs at 0x1000. -/
def pending : State :=
  { base with fsr := { Fsr.reset with ftt := 1, qne := true, cexc := 2, tem := 2 }, fq := [⟨0x1000, 0x85A009A1⟩], fpuMode := .exceptionPending }

/-- The same in exception mode, as the handler runs. -/
def handling : State := { pending with fpuMode := .exception }

/-- Step (3). -/
theorem test_fmovs_pending : (after pending 0x87A00020 fun t =>
    trappedWith 0x08 t && decide (t.fpuMode = .exception)) = true := by decide +kernel

/-- Step (4). -/
theorem test_stdfq : (after (handling.setReg 8 0x4000) 0xC1320000 fun t =>
    decide (t.mem.double 0 0x4000 = 0x0000100085A009A1) && decide (t.fq = []) && !t.fsr.qne && decide (t.fpuMode = .execute)) = true := by decide +kernel

/-- Step (5). -/
theorem test_fmovs_sequence : (after handling 0x87A00020 fun t =>
    trappedWith 0x08 t && decide (t.fsr.ftt = 4) && decide (t.fpuMode = .exception)) = true := by decide +kernel

/-- R434 with traps disabled: the mode and the queue are as before. -/
theorem test_sequence_error_halts : (after { handling with psr := { handling.psr with et := false } } 0x87A00020 fun t =>
    t.errorMode && decide (t.fsr = { handling.fsr with ftt := 4 }) && decide (t.fpuMode = .exception) &&
    decide (t.fq = handling.fq)) = true := by decide +kernel

theorem test_ldfsr : (after (((base.setReg 8 0x4000).placeWord 0 0x4000 0xCF800FFF)) 0xC10A0000 fun t =>
    decide (t.fsr = { Fsr.reset with rd := 3, rp := 0, tem := 0x1F, fcc := 3, aexc := 0x1F, cexc := 0x1F })) = true := by decide +kernel

theorem test_lddf : (after stored 0xC51A0000 fun t =>
    decide (t.freg 2 = 0x1180F344) && decide (t.freg 3 = 0xFF007FFE)) = true := by decide +kernel

/-- `fp_disabled` before the alignment check. -/
theorem test_ldf_disabled : (after { stored with psr := { base.psr with ef := false } } 0xC3022001 fun t =>
    trappedWith 0x04 t) = true := by decide +kernel

/-! Section 2.10: interrupts; PC 0x1000, window 2, user mode. -/

/-- IRL at the next boundary, with this PIL and ET. -/
def interrupting (et : Bool) (pil irl : BitVec 4) : State :=
  { base with pc := 0x1000, npc := 0x1004, inputs := [⟨false, irl⟩],
              psr := { Psr.reset with et := et, s := false, pil := pil, cwp := 2 } }

theorem test_interrupt_masked : (after (interrupting true 3 3) 0x01000000 fun t =>
    decide (t.pc = 0x1004) && t.psr.et) = true := by decide +kernel

theorem test_interrupt : (after (interrupting true 3 4) 0x01000000 fun t =>
    decide (t.pc = 0x8140) && decide (t.npc = 0x8144) && decide (t.reg 17 = 0x1000) && decide (t.reg 18 = 0x1004) && decide (t.psr = { Psr.reset with pil := 3, cwp := 1, s := true })) = true := by decide +kernel

theorem test_interrupt_15 : (after (interrupting true 15 15) 0x01000000 fun t =>
    decide (t.pc = 0x81F0)) = true := by decide +kernel

theorem test_interrupt_disabled : (after (interrupting false 0 15) 0x01000000 fun t =>
    decide (t.pc = 0x1004)) = true := by decide +kernel

/-! The coprocessor (`41_load_store_fp_cp.md` R271, R274); memory as in section 2.2. -/

theorem test_ldc : (after stored 0xC3820000 fun t =>
    decide (t.creg 1 = 0x1180F344)) = true := by decide +kernel

theorem test_stc : (after (stored.setCreg 1 0x01020304) 0xC3A20000 fun t =>
    decide (t.mem.word 0 0x4000 = 0x01020304)) = true := by decide +kernel

theorem test_cpop1_disabled : (after { base with psr := { base.psr with ec := false } } 0x81B03FE0 fun t =>
    trappedWith 0x24 t) = true := by decide +kernel

/-! ## Witnesses: each statement's hypotheses are met -/

/-- The result is a next state. -/
def answers : Result → Bool
  | .next _ => true
  | _ => false

/-- `base` with ADD %o0, 1, %o0 at PC. -/
def running : State := base.withFetchWord 32 0x90022001

/-- A platform that refuses every fetch and every access to the asis 0x0B and 0x20; asi 0x20 reaches storage 5. -/
def refusing : State :=
  { base with
    platform := { base.platform with
      otherSpaces := [(0x20, 5)]
      faults := [⟨0x09, .fetch, 0, 0xFFFFFFFF, 4, 4⟩, ⟨0x0B, .read, 0, 0xFFFFFFFF, 1, 8⟩, ⟨0x0B, .write, 0, 0xFFFFFFFF, 1, 8⟩,
        ⟨0x0B, .rmw, 0, 0xFFFFFFFF, 1, 8⟩, ⟨0x20, .read, 0, 0xFFFFFFFF, 1, 8⟩, ⟨0x20, .write, 0, 0xFFFFFFFF, 1, 8⟩,
        ⟨0x20, .rmw, 0, 0xFFFFFFFF, 1, 8⟩] } }

/-- asi 0x20 reaches storage 5; the last doubleword address in %o0. -/
def spaces : State := with89 { base with platform := { base.platform with otherSpaces := [(0x20, 5)] } } 0xFFFFFFF8 0

/-- What a step needs to run the word at PC. -/
def ready (s : State) (w : Word) : Prop :=
  s.input.reset = false ∧ s.errorMode = false ∧ s.sampled.interruptAccepted s.input.irl = false ∧ s.fetch = some w

theorem witness_StepRunsDecodedInstruction :
    ready running 0x90022001 ∧ decode 0x90022001 = .ok (.add 8 8 (.imm 1)) := by unfold ready; decide +kernel

theorem witness_FetchReadsMemoryAtPc :
    (running.psrWrite.left = 0 ∧ running.stale = [] ∧ running.platform.memFault 0x09 running.pc 4 .fetch = false) ∧
    (refusing.psrWrite.left = 0 ∧ refusing.stale = [] ∧ refusing.platform.memFault 0x09 refusing.pc 4 .fetch = true) ∧
    (user.psrWrite.left = 0 ∧ user.stale = [] ∧ user.psr.s = false) := by decide +kernel

theorem witness_EncodeDecode : decode 0x90022001 = .ok (.add 8 8 (.imm 1)) ∧ decode 0xFFFFFFFF ≠ .ok (.call 0) := by decide +kernel

/-- `base` about to fetch a word that names no instruction. -/
def fetching (w : Nat) : State := base.withFetchWord 32 w

theorem witness_UnassignedWordsTrap_op2 :
    (ready (fetching 0x00400000) 0x00400000 ∧ opOf 0x00400000 = 0 ∧ op2Of 0x00400000 ∈ [1#3, 3#3, 5#3]) ∧
    (ready (fetching 0x01400000) 0x01400000 ∧ opOf 0x01400000 = 0 ∧ op2Of 0x01400000 ∈ [1#3, 3#3, 5#3]) := by
  unfold ready; decide +kernel

theorem witness_UnassignedWordsTrap_op3 :
    (ready (fetching 0x80480000) 0x80480000 ∧ opOf 0x80480000 = 2 ∧ op3Of 0x80480000 = 0x09) ∧
    (ready (fetching 0x81F80000) 0x81F80000 ∧ opOf 0x81F80000 = 2 ∧ op3Of 0x81F80000 = 0x3F) ∧
    (ready (fetching 0xC0400000) 0xC0400000 ∧ opOf 0xC0400000 = 3 ∧ op3Of 0xC0400000 = 0x08) ∧
    (ready (fetching 0xC1F80000) 0xC1F80000 ∧ opOf 0xC1F80000 = 3 ∧ op3Of 0xC1F80000 = 0x3F) := by
  unfold ready; decide +kernel

theorem witness_UnassignedWordsTrap_opf :
    (ready (fetching 0x81A00000) 0x81A00000 ∧ op3Of 0x81A00000 = 0x34 ∧ opfOf 0x81A00000 = 0 ∧ fpuReady (fetching 0x81A00000)) ∧
    (ready (fetching 0x81A83FE0) 0x81A83FE0 ∧ op3Of 0x81A83FE0 = 0x35 ∧ opfOf 0x81A83FE0 = 0x1FF ∧ fpuReady (fetching 0x81A83FE0)) ∧
    (ready (State.reset.withFetchWord 32 0x81A00000) 0x81A00000 ∧ (State.reset.withFetchWord 32 0x81A00000).efView = false) := by
  unfold ready fpuReady; decide +kernel

theorem witness_UnassignedWordsTrap_fetch :
    refusing.input.reset = false ∧ refusing.errorMode = false ∧ refusing.sampled.interruptAccepted refusing.input.irl = false ∧
    refusing.fetch = none := by decide +kernel

theorem running_inv : running.Inv where
  pcAligned := by unfold isAligned; decide +kernel
  npcAligned := by unfold isAligned; decide +kernel
  globalZero := by decide +kernel
  cwpInRange := by decide +kernel
  wimBits := by decide +kernel
  tbrBits := by decide +kernel
  qne := by decide +kernel
  fpuMode := by decide +kernel
  windows := by decide +kernel
  memory := by decide +kernel

theorem witness_StepKeepsInvariant : running.Inv ∧ answers (step running) = true := ⟨running_inv, by decide +kernel⟩

theorem witness_SecondOperand : base.psrWrite.left = 0 := by decide

theorem witness_WindowOverlap :
    (7#5).toNat < 8 ∧ 8 ≤ (8#5).toNat ∧ (15#5).toNat < 16 ∧ physical 7 24 = physical 0 8 ∧ physical 0 31 = physical 1 15 ∧
    physical 3 7 = physical 6 7 ∧ physical 7 16 = physical 7 16 ∧
    (16 ≤ (16#5).toNat ∧ (23#5).toNat < 24 ∧ (7#5 : BitVec 5) ≠ 0#5 ∧ (23#5 : RegNum) ≠ 24#5) := by decide

theorem witness_LogicalFlags : base.psrWrite.left = 0 := by decide

theorem witness_TaggedOverflow : base.psrWrite.left = 0 := by decide

theorem witness_ShiftResults : base.psrWrite.left = 0 := by decide

theorem witness_SethiUnimpIflush :
    base.platform.ift = true ∧ ({ base with platform := { base.platform with ift := false } } : State).platform.ift = false := by decide

/-- Window 7 and window 1 invalid. -/
def guarded : State := { base with wim := 0x82 }

theorem witness_SaveAndRestore :
    (base.wimWrite.left = 0 ∧ base.psrWrite.left = 0 ∧ base.wim.getLsbD (7#5).toNat = false ∧ (7#5).toNat = (base.psr.cwp.toNat + 7) % 8) ∧
    (base.wim.getLsbD (1#5).toNat = false ∧ (1#5).toNat = (base.psr.cwp.toNat + 1) % 8) ∧
    ((0#5).toNat = ((base.setCwp 7).psr.cwp.toNat + 1) % 8) ∧
    (guarded.wimWrite.left = 0 ∧ guarded.psrWrite.left = 0 ∧ guarded.wim.getLsbD ((guarded.psr.cwp.toNat + 7) % 8) = true ∧
      guarded.wim.getLsbD ((guarded.psr.cwp.toNat + 1) % 8) = true) := by decide +kernel

/-- The effective address of the witnesses below. -/
def ea (s : State) (rs1 : RegNum) (src2 : Operand2) : Word := s.reg rs1 + s.operand2 src2

theorem witness_IntegerLoads :
    dataAllowed base (ea base 0 (.imm (-1))) 1 .read ∧ dataAllowed base (ea base 0 (.imm (-2))) 2 .read ∧
    dataAllowed base (ea base 0 (.imm (-4))) 4 .read ∧ dataAllowed base (ea base 0 (.imm (-8))) 8 .read ∧
    (30#5 : RegNum).toNat % 2 = 0 := by unfold dataAllowed; decide +kernel

theorem witness_IntegerStoresAndAtomics :
    Memory.wf base.mem = true ∧ dataAllowed base (ea base 0 (.imm (-1))) 1 .write ∧ dataAllowed base (ea base 0 (.imm (-2))) 2 .write ∧
    dataAllowed base (ea base 0 (.imm (-4))) 4 .write ∧ dataAllowed base (ea base 0 (.imm (-8))) 8 .write ∧
    dataAllowed base (ea base 0 (.imm (-1))) 1 .rmw ∧ dataAllowed base (ea base 0 (.imm (-4))) 4 .rmw ∧ (0#5 : RegNum).toNat % 2 = 0 := by
  unfold dataAllowed; decide +kernel

theorem witness_AlternateSpaceAccesses :
    let a := spaces.reg 8 + spaces.reg 0
    spaces.supervisor = true ∧ Memory.wf spaces.mem = true ∧ alternateAllowed spaces 0x20 a 1 .read 5 ∧
    alternateAllowed spaces 0x20 a 2 .read 5 ∧ alternateAllowed spaces 0x20 a 4 .read 5 ∧ alternateAllowed spaces 0x20 a 8 .read 5 ∧
    alternateAllowed spaces 0x20 a 1 .write 5 ∧ alternateAllowed spaces 0x20 a 2 .write 5 ∧ alternateAllowed spaces 0x20 a 4 .write 5 ∧
    alternateAllowed spaces 0x20 a 8 .write 5 ∧ alternateAllowed spaces 0x20 a 1 .rmw 5 ∧ alternateAllowed spaces 0x20 a 4 .rmw 5 := by
  unfold alternateAllowed; decide +kernel

theorem witness_DataAccessTraps :
    (ea base 0 (.imm 1)).toNat % 2 ≠ 0 ∧ (ea base 0 (.imm 2)).toNat % 4 ≠ 0 ∧ (ea base 0 (.imm 4)).toNat % 8 ≠ 0 ∧
    (base.efView = true ∧ base.platform.fpuPresent = true ∧ base.ecView = true ∧ base.platform.cpPresent = true ∧ base.supervisor = true) ∧
    (ea refusing 0 (.imm 0)).toNat % 8 = 0 ∧ (30#5 : RegNum).toNat % 2 = 0 ∧
    (refusing.efView = true ∧ refusing.ecView = true ∧ refusing.supervisor = true ∧ refusing.fpuMode = .execute ∧
      refusing.fpuMode ≠ .exceptionPending ∧ refusing.cp.exceptionPending = false) ∧
    ([(1, .read), (2, .read), (4, .read), (8, .read), (1, .write), (2, .write), (4, .write), (8, .write), (1, .rmw), (4, .rmw)] :
      List (Nat × AccessKind)).all (fun p => refusing.platform.memFault refusing.dataAsi (ea refusing 0 (.imm 0)) p.1 p.2) = true := by
  decide +kernel

theorem witness_AlternateChecks :
    user.supervisor = false ∧ refusing.supervisor = true ∧ (refusing.reg 0 + refusing.reg 0).toNat % 8 = 0 ∧
    ([(1, .read), (2, .read), (4, .read), (8, .read), (1, .write), (2, .write), (4, .write), (8, .write), (1, .rmw), (4, .rmw)] :
      List (Nat × AccessKind)).all (fun p => refusing.platform.memFault 0x20 (refusing.reg 0 + refusing.reg 0) p.1 p.2) = true ∧
    base.platform.memFault 0x20 (base.reg 0 + base.reg 0) 8 .read = false ∧ base.platform.storageOf 0x20 = none ∧
    ((with89 base 1 0).reg 8 + (with89 base 1 0).reg 9).toNat % 2 ≠ 0 ∧ ((with89 base 2 0).reg 8 + (with89 base 2 0).reg 9).toNat % 4 ≠ 0 ∧
    ((with89 base 4 0).reg 8 + (with89 base 4 0).reg 9).toNat % 8 ≠ 0 := by decide +kernel

theorem witness_OddPairStops :
    (1#5 : RegNum).toNat % 2 = 1 ∧ (31#5 : RegNum).toNat % 2 = 1 ∧ base.supervisor = true ∧ base.efView = true ∧
    base.platform.fpuPresent = true ∧ base.ecView = true ∧ base.platform.cpPresent = true ∧
    (Instr.faddx 30 0 0).wellFormed = false ∧ isFloatingPoint (.faddx 30 0 0) = true ∧ (Instr.faddd 0 0 1).wellFormed = false ∧
    isFloatingPoint (.faddd 0 0 1) = true ∧ isExtended (.faddd 0 0 1) = false ∧ fpuReady base ∧
    base.platform.extendedImplemented = true := by unfold fpuReady; decide +kernel

theorem witness_BiccOutcomes : base.prev ≠ .condBranch := by decide

theorem witness_FbfccOutcomes : base.prev ≠ .condBranch ∧ fpuReady base ∧ base.prev ≠ .fp := by unfold fpuReady; decide +kernel

theorem witness_CbcccOutcomes :
    base.prev ≠ .condBranch ∧ base.ecView = true ∧ base.platform.cpPresent = true ∧ base.cp.exceptionPending = false ∧ base.prev ≠ .cp := by
  decide +kernel

theorem witness_CallAndJump :
    base.prev ≠ .condBranch ∧ (ea base 0 (.imm (-4))).toNat % 4 = 0 ∧ (ea base 0 (.imm (-1))).toNat % 4 ≠ 0 := by decide +kernel

theorem witness_ReturnFromTrap :
    (let s := handler true false 2 0x24
     s.prev ≠ .condBranch ∧ s.psrWrite.left = 0 ∧ s.wimWrite.left = 0 ∧ s.psr.et = false ∧ s.psr.s = true ∧
     (0#5).toNat = (s.psr.cwp.toNat + 1) % 8 ∧ s.wim.getLsbD (0#5).toNat = false ∧ (ea s 18 (.imm 4)).toNat % 4 = 0) ∧
    (let s := handler true true 2 0x24; s.psr.et = true ∧ s.prev ≠ .condBranch ∧ s.psrWrite.left = 0 ∧ s.wimWrite.left = 0) ∧
    (let s := handler false false 2 0x24; s.psr.et = false ∧ s.psr.s = false) ∧
    (let s := handler true false 1 0x24; s.psr.et = false ∧ s.psr.s = true ∧ s.wim.getLsbD ((s.psr.cwp.toNat + 1) % 8) = true) ∧
    (let s := handler true false 2 0x22
     s.psr.et = false ∧ s.psr.s = true ∧ s.wim.getLsbD ((s.psr.cwp.toNat + 1) % 8) = false ∧ (ea s 18 (.imm 4)).toNat % 4 ≠ 0) := by
  decide +kernel

theorem not_trapped {s t : State} (h1 : t.psr.et = true) (h2 : t.errorMode = false) : ¬ trapped s t := fun h => by
  rcases trapped_off h with h | h
  · exact absurd (h1.symm.trans h) (by decide)
  · exact absurd (h2.symm.trans h) (by decide)

/-- In the handler, with the delay instruction at 0x24 to resume. -/
def resuming : State := { handler true false 2 0x24 with pausedDelays := [⟨0x24, 0x28⟩] }

theorem witness_TransferInDelaySlotStops :
    (isDelayedTransfer (.be true 0) = true ∧ ({ base with prev := .condBranch } : State).prev = .condBranch) ∧
    (∃ t, exec (.be true 0) (flagged false true false false) = .next t ∧ ¬ trapped (flagged false true false false) t ∧
      isConditionalBranch (.be true 0) = true ∧ t.pc = (flagged false true false false).npc) ∧
    (∃ t, exec (.be true 0) base = .next t ∧ ¬ trapped base t ∧ t.pc ≠ base.npc) ∧
    (∃ t, exec (.rett 0 18 (.imm 4)) resuming = .next t ∧ ¬ trapped resuming t ∧ (⟨t.pc, t.npc⟩ : DelaySlot) ∈ resuming.pausedDelays) ∧
    (⟨0, 4⟩ : DelaySlot) ≠ ⟨base.pc, base.npc⟩ :=
  ⟨by decide +kernel, ⟨_, rfl, not_trapped (by decide +kernel) (by decide +kernel), by decide, by decide +kernel⟩,
    ⟨_, rfl, not_trapped (by decide +kernel) (by decide +kernel), by decide +kernel⟩,
    ⟨resuming.returnFromTrap 0x28 0, by rfl, not_trapped (by decide +kernel) (by decide +kernel), by decide +kernel⟩, by decide +kernel⟩

theorem witness_NonTransfersAdvance : isDelayedTransfer (.add 8 8 (.imm 1)) = false ∧ answers (exec (.add 8 8 (.imm 1)) base) = true := by
  decide +kernel

theorem witness_ReadStateRegisters :
    base.yWrite.left = 0 ∧ base.supervisor = true ∧ base.psrWrite.left = 0 ∧ base.wimWrite.left = 0 ∧ base.tbrWrite.left = 0 := by
  decide +kernel

theorem witness_WriteStateRegisters :
    base.supervisor = true ∧ (base.reg 0 ^^^ base.operand2 (.imm 7)).toNat % 32 < 8 ∧ (base.reg 0 ^^^ base.operand2 (.imm 0)).toNat % 32 < 8 := by
  decide +kernel

theorem witness_PrivilegedInstructionsTrap :
    user.supervisor = false ∧ (user.reg 0 ^^^ user.operand2 (.imm 7)).toNat % 32 < 8 ∧
    8 ≤ (user.reg 0 ^^^ user.operand2 (.imm 8)).toNat % 32 ∧ 8 ≤ (base.reg 0 ^^^ base.operand2 (.imm 31)).toNat % 32 := by decide +kernel

/-- All four windows just opened. -/
def opened : State :=
  { base with
    psrWrite := ⟨3, base.psr, { base.psr with pil := 15 }⟩, wimWrite := ⟨3, 0, 0xFF⟩, tbrWrite := ⟨3, 0, 0x8000⟩, yWrite := ⟨3, 0, 1⟩ }

theorem witness_DelayedWritesSettle :
    (opened.psrWrite.left ≤ 3 ∧ opened.wimWrite.left ≤ 3 ∧ opened.tbrWrite.left ≤ 3 ∧ opened.yWrite.left ≤ 3) ∧
    (isStateWrite (.sethi 0 0) = false ∧ ∃ t, exec (.sethi 0 0) opened = .next t ∧ ¬ trapped opened t) ∧
    (isStateWrite (.ba true 4) = false ∧ ∃ t, exec (.ba true 4) opened = .next t ∧ ¬ trapped opened t) :=
  ⟨by decide +kernel, ⟨by decide, opened.advance, rfl, not_trapped (by decide +kernel) (by decide +kernel)⟩,
    ⟨by decide, opened.branch 8 true true 4, rfl, not_trapped (by decide +kernel) (by decide +kernel)⟩⟩

theorem witness_FpMoves : fpuReady base := by unfold fpuReady; decide +kernel

/-- How an FPop ends: 0 declined, 1 completed, 2 with an enabled exception. -/
def ending (s : State) (declined : Bool) (flags : BitVec 5) : Nat :=
  if declined then 0 else if flags &&& s.fsr.tem = 0 then 1 else 2

/-- How FADDs, FSUBs, FMULs and FDIVs of f[1], f[2] and FSQRTs of f[2] end. -/
def endingsSingle (s : State) : List Nat :=
  let a := s.freg 1
  let b := s.freg 2
  let ends (opf : BitVec 9) (first : Word) (exotic : Bool) (x : Exact) : Nat :=
    let r := s.roundSingle opf (first.setWidth 64) (b.setWidth 64) x
    ending s ((exotic || r.exotic) && s.declines opf (first.setWidth 96) (b.setWidth 96)) r.flags
  let exotic := exoticS a || exoticS b
  [ends 0x041 a exotic (exactAdd s.fsr.rd (numberS a) (numberS b)), ends 0x045 a exotic (exactSub s.fsr.rd (numberS a) (numberS b)),
   ends 0x049 a exotic (exactMul (numberS a) (numberS b)), ends 0x04D a exotic (exactDiv singleFormat (numberS a) (numberS b)),
   ends 0x029 0 (exoticS b) (exactSqrt singleFormat (numberS b))]

/-- The same of the doubles at f[0], f[2] and f[2]. -/
def endingsDouble (s : State) : List Nat :=
  let a := s.fdouble 0
  let b := s.fdouble 2
  let ends (opf : BitVec 9) (first : Doubleword) (exotic : Bool) (x : Exact) : Nat :=
    let r := s.roundDouble opf first b x
    ending s ((exotic || r.exotic) && s.declines opf (first.setWidth 96) (b.setWidth 96)) r.flags
  let exotic := exoticD a || exoticD b
  [ends 0x042 a exotic (exactAdd s.fsr.rd (numberD a) (numberD b)), ends 0x046 a exotic (exactSub s.fsr.rd (numberD a) (numberD b)),
   ends 0x04A a exotic (exactMul (numberD a) (numberD b)), ends 0x04E a exotic (exactDiv doubleFormat (numberD a) (numberD b)),
   ends 0x02A 0 (exoticD b) (exactSqrt doubleFormat (numberD b))]

/-- Every exception enabled, with these singles in f[1] and f[2]. -/
def allEnabled (a b : Word) : State := fpState 0 0x1F a b

/-- The FPU declines these FPops on these operands. -/
def declining (s : State) (opfs : List (BitVec 9)) (a b : BitVec 96) : State :=
  { s with platform := { s.platform with unfinished := opfs.map fun opf => ⟨opf, a, b⟩ } }

theorem witness_FpArithmeticSingle :
    (fpuReady (allEnabled 0x3F800000 0x40800000) ∧ endingsSingle (allEnabled 0x3F800000 0x40800000) = [1, 1, 1, 1, 1]) ∧
    (fpuReady (allEnabled 0x7F7FFFFF 0x7F7FFFFF) ∧ endingsSingle (allEnabled 0x7F7FFFFF 0x7F7FFFFF) = [2, 1, 2, 1, 2]) ∧
    (endingsSingle (allEnabled 0x7F7FFFFF 0xFF7FFFFF) = [1, 2, 2, 1, 2]) ∧ (endingsSingle (allEnabled 0x3F800000 0) = [1, 1, 1, 2, 1]) ∧
    (fpuReady (declining (allEnabled 1 1) [0x041, 0x045, 0x049, 0x04D] 1 1) ∧
      endingsSingle (declining (allEnabled 1 1) [0x041, 0x045, 0x049, 0x04D] 1 1) = [0, 0, 0, 0, 2]) ∧
    endingsSingle (declining (fpState 0 0 0x3F800000 0x7FC00000) [0x029] 0 0x7FC00000) = [1, 1, 1, 1, 0] := by
  unfold fpuReady; decide +kernel

/-- Every exception enabled, with these doubles in f[0] and f[2]. -/
def allEnabledD (a b : Doubleword) : State :=
  { (base.setFdouble 0 a).setFdouble 2 b with fsr := { Fsr.reset with tem := 0x1F } }

theorem witness_FpArithmeticDouble :
    ((30#5 : RegNum).toNat % 2 = 0 ∧ (2#5 : RegNum).toNat % 2 = 0 ∧ (0#5 : RegNum).toNat % 2 = 0) ∧
    (fpuReady (allEnabledD 0x3FF0000000000000 0x4010000000000000) ∧
      endingsDouble (allEnabledD 0x3FF0000000000000 0x4010000000000000) = [1, 1, 1, 1, 1]) ∧
    endingsDouble (allEnabledD 0x7FEFFFFFFFFFFFFF 0xFFEFFFFFFFFFFFFF) = [1, 2, 2, 1, 2] ∧
    endingsDouble (allEnabledD 0x3FF0000000000000 0) = [1, 1, 1, 2, 1] ∧
    (fpuReady (declining (allEnabledD 1 1) [0x042, 0x046, 0x04A, 0x04E] 1 1) ∧
      endingsDouble (declining (allEnabledD 1 1) [0x042, 0x046, 0x04A, 0x04E] 1 1) = [0, 0, 0, 0, 1]) ∧
    endingsDouble (declining (allEnabledD 1 1) [0x02A] 0 1) = [2, 1, 2, 1, 0] := by
  unfold fpuReady; decide +kernel

/-- How FiTOs, FiTOd, FsTOd and FdTOs of f[2] end. -/
def endingsConversion (s : State) : List Nat :=
  let w := s.freg 2
  let d := s.fdouble 2
  let single (opf : BitVec 9) (operand : Doubleword) (exotic : Bool) (x : Exact) : Nat :=
    let r := s.roundSingle opf 0 operand x
    ending s ((exotic || r.exotic) && s.declines opf 0 (operand.setWidth 96)) r.flags
  let double (opf : BitVec 9) (operand : Doubleword) (exotic : Bool) (x : Exact) : Nat :=
    let r := s.roundDouble opf 0 operand x
    ending s ((exotic || r.exotic) && s.declines opf 0 (operand.setWidth 96)) r.flags
  [single 0x0C4 0 false (exactOfInt w.toInt), double 0x0C8 0 false (exactOfInt w.toInt),
   double 0x0C9 (w.setWidth 64) (exoticS w) (exactOf (numberS w)), single 0x0C6 d (exoticD d) (exactOf (numberD d))]

theorem witness_FpConversions :
    (fpuReady (allEnabled 0 0x40000000) ∧ endingsConversion (allEnabled 0 0x40000000) = [1, 1, 1, 1]) ∧
    endingsConversion (allEnabled 0 0x7F800001) = [2, 1, 2, 2] ∧
    endingsConversion (declining (fpState 0 0 0 1) [0x0C9] 0 1) = [1, 1, 0, 1] ∧
    endingsConversion (declining (fpState 0 0 0 1) [0x0C6] 0 0x100000000) = [1, 1, 1, 0] := by
  unfold fpuReady; decide +kernel

/-- An integer conversion of an operand ends in this way where it raises these exceptions. -/
def endsInteger (s : State) (opf : BitVec 9) (operand : Doubleword) (exotic : Bool) (flags : BitVec 5) (n : Nat) : Bool :=
  decide (ending s (exotic && s.declines opf 0 (operand.setWidth 96)) flags = n)

theorem witness_FpConversions_integer :
    ((numberS 0xCF000000).value = some ((if true then -1 else 1) * (((2 ^ 31 : Nat) : ℚ) + 0)) ∧
      (numberS 0xC0300000).value = some ((if true then -1 else 1) * (((2 : Nat) : ℚ) + 3 / 4)) ∧
      (numberD 0x41DFFFFFFFC00000).value = some ((if false then -1 else 1) * (((2 ^ 31 - 1 : Nat) : ℚ) + 0)) ∧
      (∃ v, (numberS 0x4F000000).value = some v ∧ 2 ^ 31 ≤ v) ∧ (∃ v, (numberD 0xC1E0000000200000).value = some v ∧ v ≤ -2 ^ 31 - 1)) ∧
    (numberS 0x7FC00000 = .nan false ∧ numberD 0xFFF0000000000000 = .infinity true) ∧
    (endsInteger base 0x0D1 0xC0300000 false 1 1 && endsInteger (allEnabled 0 0) 0x0D1 0xC0300000 false 1 2 &&
      endsInteger (declining base [0x0D1] 0 1) 0x0D1 1 (exoticS 1) 1 0 && endsInteger base 0x0D2 0xFFF0000000000000 false 0x10 1 &&
      endsInteger (allEnabled 0 0) 0x0D2 0xFFF0000000000000 false 0x10 2 &&
      endsInteger (declining base [0x0D1] 0 0x7FC00000) 0x0D1 0x7FC00000 (exoticS 0x7FC00000) 0x10 0) = true := by
  have h1 : numberS 0xCF000000 = .finite true 8388608 8 := by decide +kernel
  have h2 : numberS 0xC0300000 = .finite true 11534336 (-22) := by decide +kernel
  have h3 : numberD 0x41DFFFFFFFC00000 = .finite false 9007199250546688 (-22) := by decide +kernel
  have h4 : numberS 0x4F000000 = .finite false 8388608 8 := by decide +kernel
  have h5 : numberD 0xC1E0000000200000 = .finite true 4503599629467648 (-21) := by decide +kernel
  rw [h1, h2, h3, h4, h5]
  refine ⟨⟨?_, ?_, ?_, ⟨_, rfl, ?_⟩, ⟨_, rfl, ?_⟩⟩, by decide +kernel, by decide +kernel⟩ <;> norm_num [Number.value]

/-- How FCMPs, FCMPEs of f[1], f[2] and FCMPd, FCMPEd of the doubles at f[0], f[2] end. -/
def endingsCompare (s : State) : List Nat :=
  let single (opf : BitVec 9) (signalAll : Bool) : Nat :=
    let a := s.freg 1
    let b := s.freg 2
    ending s ((exoticS a || exoticS b) && s.declines opf (a.setWidth 96) (b.setWidth 96)) (compareFlags signalAll (numberS a) (numberS b))
  let double (opf : BitVec 9) (signalAll : Bool) : Nat :=
    let a := s.fdouble 0
    let b := s.fdouble 2
    ending s ((exoticD a || exoticD b) && s.declines opf (a.setWidth 96) (b.setWidth 96)) (compareFlags signalAll (numberD a) (numberD b))
  [single 0x051 false, single 0x055 true, double 0x052 false, double 0x056 true]

theorem witness_FpCompares :
    (fpuReady (allEnabled 0x7F800000 0x80000000) ∧ endingsCompare (allEnabled 0x7F800000 0x80000000) = [1, 1, 1, 1]) ∧
    endingsCompare (allEnabled 0x7F800000 0x7F800001) = [2, 2, 1, 1] ∧ endingsCompare (allEnabled 0x7F800000 0x7FF80000) = [1, 2, 1, 2] ∧
    endingsCompare (allEnabled 0x7F800000 0x7FF00001) = [1, 2, 2, 2] ∧
    endingsCompare (declining (allEnabled 1 1) [0x051, 0x055] 1 1) = [0, 0, 1, 1] ∧
    endingsCompare (declining (allEnabledD 1 1) [0x052, 0x056] 1 1) = [1, 1, 0, 0] ∧ (2#5 : RegNum).toNat % 2 = 0 := by
  unfold fpuReady; decide +kernel

/-- The FPU ready, without extended precision. -/
def noExtended : State := { base with platform := { base.platform with extendedImplemented := false } }

/-- Whether an extended operation raises an enabled exception is open; with TEM = 0 none is enabled. -/
theorem witness_ExtendedOperations :
    (fpuReady base ∧ base.platform.extendedImplemented = true ∧ base.fsr.tem = 0 ∧ extendedReg 28 = true ∧ extendedReg 0 = true ∧
      base.declines 0x043 (base.fextended 0) (base.fextended 28) = false ∧ base.declines 0x057 (base.fextended 0) (base.fextended 28) = false) ∧
    (fpuReady (declining base [0x043, 0x057] 0 0) ∧ (declining base [0x043, 0x057] 0 0).declines 0x043 (base.fextended 0) (base.fextended 28) = true ∧
      (declining base [0x043, 0x057] 0 0).declines 0x057 (base.fextended 0) (base.fextended 28) = true) ∧
    (fpuReady noExtended ∧ noExtended.platform.extendedImplemented = false) := by unfold fpuReady; decide +kernel

/-- 1.0 and -0.0, division by zero enabled. -/
def divides : State := fpState 0 2 0x3F800000 0x80000000

/-- FADDs %f1, %f2, %f3 is declined. -/
def unfinished : State := declining (allEnabled 1 1) [0x041] 1 1

theorem witness_FpFailures :
    (fpuReady divides ∧ opOf (encode (.fdivs 3 1 2)) = 2 ∧ op3Of (encode (.fdivs 3 1 2)) = 0x34 ∧
      (match exec (.fdivs 3 1 2) { divides with fsr := { divides.fsr with tem := 0 } } with
       | .next u => decide (u.fpuMode = .execute) && decide (u.fsr.cexc &&& divides.fsr.tem ≠ 0)
       | _ => false) = true) ∧
    (fpuReady unfinished ∧ op3Of (encode (.fadds 3 1 2)) = 0x34 ∧
      (match exec (.fadds 3 1 2) unfinished with
       | .next t => decide (t.fsr.ftt = 2)
       | _ => false) = true) ∧
    (numberS (divides.freg 1) = .finite false 8388608 (-23) ∧ exoticS (divides.freg 1) = false ∧
      (divides.freg 2).toNat % 2 ^ 31 = 0 ∧ divides.fsr.tem.getLsbD 1 = true) := by unfold fpuReady; decide +kernel

theorem witness_PendingExceptionTaken :
    (pending.efView = true ∧ pending.platform.fpuPresent = true ∧ pending.prev ≠ .condBranch ∧ pending.fpuMode = .exceptionPending ∧
      pending.trapsEnabled = true ∧ pending.supervisor = true) ∧
    (handling.efView = true ∧ handling.platform.fpuPresent = true ∧ handling.prev ≠ .condBranch ∧ handling.fpuMode = .exception) ∧
    (let s : State := { pending with psr := { pending.psr with s := false, et := false } }
     s.efView = true ∧ s.supervisor = false ∧ s.trapsEnabled = false) ∧
    (isFloatingPoint (.fmovs 3 0 0) = true ∧ isStore (.fmovs 3 0 0) = false ∧
      ∀ rd rs1 src2, Instr.fmovs 3 0 0 ≠ .ldf rd rs1 src2 ∧ Instr.fmovs 3 0 0 ≠ .lddf rd rs1 src2 ∧ Instr.fmovs 3 0 0 ≠ .ldfsr rd rs1 src2) ∧
    (isFloatingPoint (.stdfq 0 0 (.imm 8)) = true ∧ isFloatingPoint (.lddf 0 0 (.imm 8)) = true ∧ isFloatingPoint (.stf 31 0 (.imm 4)) = true ∧
      (ea pending 0 (.imm 8)).toNat % 8 = 0 ∧ (ea pending 0 (.imm 4)).toNat % 4 = 0 ∧ (ea handling 0 (.imm 8)).toNat % 8 = 0 ∧
      (ea handling 0 (.imm 4)).toNat % 4 = 0 ∧ (0#5 : RegNum).toNat % 2 = 0) :=
  ⟨by decide +kernel, by decide +kernel, by decide +kernel, ⟨by decide, by decide, fun _ _ _ => ⟨nofun, nofun, nofun⟩⟩, by decide +kernel⟩

theorem witness_FpLoads :
    fpuReady base ∧ dataAllowed base (ea base 0 (.imm (-4))) 4 .read ∧ dataAllowed base (ea base 0 (.imm (-8))) 8 .read ∧
    (30#5 : RegNum).toNat % 2 = 0 := by unfold fpuReady dataAllowed; decide +kernel

theorem witness_FpStores :
    (base.efView = true ∧ base.platform.fpuPresent = true ∧ base.fpuMode ≠ .exceptionPending ∧ Memory.wf base.mem = true ∧
      dataAllowed base (ea base 0 (.imm (-4))) 4 .write ∧ dataAllowed base (ea base 0 (.imm (-8))) 8 .write ∧ (30#5 : RegNum).toNat % 2 = 0) ∧
    (handling.efView = true ∧ handling.fpuMode ≠ .exceptionPending ∧ dataAllowed handling (ea handling 0 (.imm 0)) 8 .write) := by
  unfold dataAllowed; decide +kernel

theorem witness_StoreFpQueue :
    (handling.supervisor = true ∧ handling.efView = true ∧ handling.platform.fpuPresent = true ∧ handling.fpuMode = .exception ∧
      Memory.wf handling.mem = true ∧ handling.fq = [⟨0x1000, 0x85A009A1⟩] ∧ dataAllowed handling (ea handling 0 (.imm (-8))) 8 .write) ∧
    (let s : State := { handling with fq := [⟨0x1000, 0x85A009A1⟩, ⟨0x1008, 0x85A009A1⟩] }
     s.fpuMode ≠ .exceptionPending ∧ s.fq = ⟨0x1000, 0x85A009A1⟩ :: [⟨0x1008, 0x85A009A1⟩]) ∧
    (let s : State := { handling with fpuMode := .execute }; s.fpuMode = .execute ∧ s.fq = ⟨0x1000, 0x85A009A1⟩ :: []) ∧
    (base.supervisor = true ∧ base.efView = true ∧ base.platform.fpuPresent = true ∧ base.fpuMode = .execute ∧ Memory.wf base.mem = true ∧
      base.fq = [] ∧ dataAllowed base (ea base 0 (.imm (-8))) 8 .write) ∧
    (let s : State := { handling with fq := [] }; s.fpuMode = .exception ∧ s.fq = []) := by
  unfold dataAllowed; decide +kernel

theorem witness_RoundingIsCorrect : (2 ^ 24 - 1 : Nat) ≠ 0 ∧ (1 : Nat) ≠ 0 ∧
    ((2 : ℝ) ^ (singleFormat.bias + 1) ≤ ((2 ^ 24 : Nat) : ℝ) * (2 : ℝ) ^ (104 : ℤ)) ∧
    (((2 ^ 24 - 1 : Nat) : ℝ) * (2 : ℝ) ^ (104 : ℤ) < (2 : ℝ) ^ (singleFormat.bias + 1)) ∧
    (((1 : Nat) : ℝ) * (2 : ℝ) ^ (-150 : ℤ) < (2 : ℝ) ^ singleFormat.minExp) := by
  have h1 : singleFormat.bias = 127 := by decide
  have h2 : singleFormat.minExp = -126 := by decide
  rw [h1, h2]
  norm_num

theorem witness_ExactArithmetic :
    (0x7F7FFFFF % 2 ^ 31 < singleFormat.infinityBits ∧ 0xFF800000 % 2 ^ 31 = singleFormat.infinityBits ∧
      singleFormat.infinityBits < 0x7F800001 % 2 ^ 31 ∧ 0xFFFFFFFF < 2 ^ (singleFormat.expBits + singleFormat.fracBits + 1)) ∧
    (2 ^ 63 - 1 < 2 ^ (doubleFormat.expBits + doubleFormat.fracBits + 1)) ∧ (1 : Nat) ≠ 0 := by decide

theorem witness_SpecialOperands : (∃ q, Number.nan true = .nan q) ∧ (∃ q, Number.nan false = .nan q) ∧ (1 : Nat) ≠ 0 :=
  ⟨⟨true, rfl⟩, ⟨false, rfl⟩, by decide⟩

/-- Both units disabled; no coprocessor present. -/
def disabled : State := { base with psr := { base.psr with ef := false, ec := false } }
@[inherit_doc disabled] def absent : State :=
  { base with platform := { base.platform with fpuPresent := false, cpPresent := false } }

theorem witness_DisabledUnitsTrap :
    (let s : State := { disabled with psr := { disabled.psr with s := false } }
     s.prev ≠ .condBranch ∧ s.supervisor = false ∧ s.efView = false ∧ s.ecView = false ∧ s.platform.cpPresent = true) ∧
    (disabled.prev ≠ .condBranch ∧ disabled.supervisor = true ∧ disabled.efView = false ∧ disabled.ecView = false) ∧
    (absent.prev ≠ .condBranch ∧ absent.supervisor = true ∧ absent.platform.fpuPresent = false ∧ absent.platform.cpPresent = false) ∧
    (isFloatingPoint (.fba true 0) = true ∧ isFloatingPoint (.stdfq 0 0 (.imm 0)) = true ∧ isCoprocessor (.ldc 0 0 (.imm 1)) = true ∧
      isCoprocessor (.cpop2 0 0 0 0) = true) ∧
    (∀ rd rs1 src2, Instr.cpop2 0 0 0 0 ≠ .ldc rd rs1 src2 ∧ Instr.cpop2 0 0 0 0 ≠ .lddc rd rs1 src2 ∧
      Instr.cpop2 0 0 0 0 ≠ .ldcsr rd rs1 src2) :=
  ⟨by decide +kernel, by decide +kernel, by decide +kernel, by decide, fun _ _ _ => ⟨nofun, nofun, nofun⟩⟩

/-- A coprocessor exception is pending. -/
def cpPending : State := { base with cp := { base.cp with exceptionPending := true } }

theorem witness_CoprocessorOperationsAndLoads :
    (base.ecView = true ∧ base.platform.cpPresent = true ∧ base.cp.exceptionPending = false ∧
      dataAllowed base (ea base 0 (.imm (-4))) 4 .read ∧ dataAllowed base (ea base 0 (.imm (-8))) 8 .read ∧ (30#5 : RegNum).toNat % 2 = 0) ∧
    (cpPending.ecView = true ∧ cpPending.platform.cpPresent = true ∧ cpPending.cp.exceptionPending = true ∧ cpPending.trapsEnabled = true) := by
  unfold dataAllowed; decide +kernel

/-- An entry in the coprocessor's queue. -/
def cpQueued : State := { base with cp := { base.cp with cq := [⟨0x1000, 0x81B03FE0⟩] } }

theorem witness_CoprocessorStores :
    cpQueued.ecView = true ∧ cpQueued.platform.cpPresent = true ∧ cpQueued.cp.exceptionPending = false ∧ Memory.wf cpQueued.mem = true ∧
    dataAllowed cpQueued (ea cpQueued 0 (.imm (-4))) 4 .write ∧ dataAllowed cpQueued (ea cpQueued 0 (.imm (-8))) 8 .write ∧
    (30#5 : RegNum).toNat % 2 = 0 ∧ cpQueued.supervisor = true ∧ cpQueued.cp.cq = ⟨0x1000, 0x81B03FE0⟩ :: [] ∧
    (base.supervisor = true ∧ base.cp.cq = [] ∧ base.cp.exceptionPending = false ∧ dataAllowed base (ea base 0 (.imm (-8))) 8 .write) := by
  unfold dataAllowed; decide +kernel

theorem witness_InterruptTaken :
    (let s := interrupting true 15 15; s.psrWrite.left = 0 ∧ s.errorMode = false ∧ s.inputs = ⟨false, 15⟩ :: [] ∧ s.psr.et = true) ∧
    (let s := interrupting true 0 1; s.psr.et = true ∧ s.psr.pil.toNat < (1#4).toNat ∧ s.inputs = ⟨false, 1⟩ :: []) ∧
    (let s := interrupting false 0 15; s.psr.et = false ∧ s.inputs = ⟨false, 15⟩ :: []) ∧
    (let s := interrupting true 14 14; (14#4).toNat ≤ s.psr.pil.toNat ∧ (14#4 : BitVec 4) ≠ 15 ∧ s.inputs = ⟨false, 14⟩ :: []) := by
  decide +kernel

theorem witness_ExternalReset : ({ base with inputs := [⟨true, 0⟩] } : State).input.reset = true := by decide

/-- Error mode, with an interrupt requested at the next boundary. -/
def halted : State := { base with errorMode := true, inputs := [⟨false, 15⟩] }

theorem witness_ErrorModeHalts :
    halted.errorMode = true ∧ (∀ x ∈ halted.inputs, x.reset = false) ∧ runsTo 1 halted halted.sampled :=
  ⟨rfl, by decide, halted.sampled, rfl, rfl⟩

theorem witness_UserModeKeepsControl : user.supervisor = false ∧ answers (exec (.rdpsr 8 0 0) user) = true ∧
    answers (exec (.wry 0 8 (.imm 0)) user) = true := by decide +kernel

theorem witness_OnlyStoresWriteMemory :
    (match exec (.st 9 8 (.imm 0)) stored with
     | .next t => decide (t.mem ≠ stored.mem)
     | _ => false) = true := by decide +kernel

theorem witness_OnlyCcWritesFlags : writesIcc (.add 8 8 (.imm 1)) = false ∧ answers (exec (.add 8 8 (.imm 1)) base) = true := by
  decide +kernel

end Sys2Proof.Tests
end

section
/-! SUPPORT. What an instruction can do, said once for every instruction: the changes its body makes one after the other
(`Body`), and the ways it ends (`Ends`). `exec_ends` holds `exec` to them; the laws of every instruction are
case analyses of the two. -/

namespace Sys2Proof.Machine

open Sys2Proof

/-! ## The body of an instruction -/

/-- The states that the body of `i` can reach from s before PC and nPC move: one change after the other, each with what
bounds it. -/
inductive Body (i : Instr) (s : State) : State → Prop
  | start : Body i s s
  | reg {u : State} (c : BitVec 5) (r : RegNum) (v : Word) : Body i s u → Body i s (u.setRegIn c r v)
  | icc {u : State} (x : Icc) : writesIcc i = true → Body i s u → Body i s (u.setIcc x)
  | cwp {u : State} (c : BitVec 5) : c.toNat < Config.nWindows → Body i s u → Body i s (u.setCwp c)
  | y {u : State} (v : Word) : Body i s u → Body i s { u with y := v }
  | byte {u : State} (st : Nat) (a : Word) (v : Byte) : isStore i = true → Body i s u → Body i s (u.storeByte st a v)
  | freg {u : State} (r : RegNum) (v : Word) : Body i s u → Body i s (u.setFreg r v)
  | fsr {u : State} (x : Fsr) : x.qne = u.fsr.qne → Body i s u → Body i s { u with fsr := x }
  /-- an FPop is queued, its exception pending (`45_fpop_cpop.md` R432) -/
  | queue {u : State} (e : QueueEntry) (ftt : BitVec 3) : Body i s u →
      Body i s { u with fsr := { u.fsr with ftt := ftt, qne := true }, fq := [e], fpuMode := .exceptionPending }
  | popFq {u : State} : Body i s u → Body i s u.popFq
  | cp {u : State} (x : Coprocessor) : Body i s u → Body i s { u with cp := x }

/-- The states at which the trap of an instruction at s is taken: s, but for the coprocessor, FSR.ftt and the FPU's
mode, which the trap itself may change. -/
inductive TrapAt (s : State) : State → Prop
  | same : TrapAt s s
  | cp (x : Coprocessor) : TrapAt s { s with cp := x }
  /-- a sequence error (`45_fpop_cpop.md` R434) -/
  | sequenceError : TrapAt s s.sequenceError
  /-- a pending exception is taken (`45_fpop_cpop.md` R433) -/
  | pending : s.fpuMode = .exceptionPending → TrapAt s { s with fpuMode := .exception }

/-- The ways an instruction ends: a trap, `advance` after its body, a WRxxx, or a delayed control transfer. -/
inductive Ends (i : Instr) (s : State) : State → Prop
  | trap {u : State} (tr : Trap) : TrapAt s u → Ends i s (u.trap tr)
  | advance {u : State} (kind : Prev) : Body i s u → Ends i s (u.retire u.npc (u.npc + 4) kind)
  | writePsr (v : Psr) : writesIcc i = true → s.supervisor = true → v.cwp.toNat < Config.nWindows → Ends i s (s.writePsr v)
  | writeWim (v : Word) : s.supervisor = true → v.toNat < 2 ^ 8 → Ends i s (s.writeWim v)
  | writeTbr (tba : BitVec 20) : s.supervisor = true → Ends i s (s.writeTbr (tbrWord tba (ttOf s.tbr)))
  | writeY (v : Word) : Ends i s (s.writeY v)
  | branch (cond : BitVec 4) (taken a : Bool) (disp22 : BitVec 22) : isDelayedTransfer i = true →
      isConditionalBranch i = isConditional cond → Ends i s (s.branch cond taken a disp22)
  | jump (r : RegNum) (target : Word) : isDelayedTransfer i = true → (isAligned s.pc → isAligned target) →
      Ends i s ((s.setReg r s.pc).retire s.npc target .other)
  | rett (target : Word) (window : BitVec 5) : (∃ rd rs1 src2, i = .rett rd rs1 src2) → s.supervisor = true →
      s.trapsEnabled = false → isAligned target → window.toNat < Config.nWindows → Ends i s (s.returnFromTrap target window)

/-! ## Each shared operation ends so -/

section
variable {i : Instr} {s u : State} {k : Result}

theorem enterTrap_eq_trap {tr : Trap} (h : s.trapsEnabled = true) : s.enterTrap tr = s.trap tr := (if_pos h).symm

theorem enterError_eq_trap {tr : Trap} (h : s.trapsEnabled = false) : s.enterError tr = s.trap tr := by
  simp [State.trap, h]

/-- A pending exception is taken as a trap, in error mode one that leaves the FPU alone (log 30). -/
theorem takeFpException_ends (h : s.fpuMode = .exceptionPending) : Ends i s s.takeFpException := by
  unfold State.takeFpException
  split <;> rename_i he
  · rw [enterTrap_eq_trap (s := { s with fpuMode := .exception }) he]; exact .trap _ (.pending h)
  · rw [enterError_eq_trap (by simpa using he)]; exact .trap _ .same

theorem trapAt_cpTrapped (x : Coprocessor) : TrapAt s (s.cpTrapped x) := by
  unfold State.cpTrapped
  split
  · exact .cp x
  · exact .same

theorem trapAt_cpLoadTrapped : TrapAt s s.cpLoadTrapped := by
  unfold State.cpLoadTrapped
  split
  · exact trapAt_cpTrapped _
  · exact .same

theorem ends_raise (tr : Trap) : Always (raise s tr) (Ends i s) := always_raise (.trap tr .same)

theorem ends_advance (h : Body i s u) : Always (.next u.advance) (Ends i s) := always_next (.advance .other h)

theorem ends_advanceFp (h : Body i s u) : Always (.next u.advanceFp) (Ends i s) := always_next (.advance .fp h)

theorem ends_advanceCp (h : Body i s u) : Always (.next u.advanceCp) (Ends i s) := always_next (.advance .cp h)

theorem ends_finish {rd : RegNum} {r : Word} (h : Body i s u) : Always (finish u rd r) (Ends i s) :=
  ends_advance (.reg _ rd r h)

theorem ends_finishCc {rd : RegNum} {r : Word} {x : Icc} (hi : writesIcc i = true) (h : Body i s u) :
    Always (finishCc u rd r x) (Ends i s) := ends_advance (.icc x hi (.reg _ rd r h))

theorem ends_privileged (hk : s.supervisor = true → Always k (Ends i s)) : Always (privileged s k) (Ends i s) :=
  always_privileged (.trap _ .same) hk

/-! ### Loads and stores -/

theorem body_setPair {rd : RegNum} {v : Doubleword} (h : Body i s u) : Body i s (u.setPair rd v) :=
  .reg _ _ _ (.reg _ _ _ h)

theorem body_setFdouble {r : RegNum} {v : Doubleword} (h : Body i s u) : Body i s (u.setFdouble r v) :=
  .freg _ _ (.freg _ _ h)

theorem body_setFextended {r : RegNum} {v : BitVec 96} (h : Body i s u) : Body i s (u.setFextended r v) :=
  .freg _ _ (.freg _ _ (.freg _ _ h))

theorem body_storeHalf {st : Nat} {a : Word} {v : Halfword} (hi : isStore i = true) (h : Body i s u) :
    Body i s (u.storeHalf st a v) := .byte _ _ _ hi (.byte _ _ _ hi h)

theorem body_storeWord {st : Nat} {a v : Word} (hi : isStore i = true) (h : Body i s u) : Body i s (u.storeWord st a v) :=
  .byte _ _ _ hi (.byte _ _ _ hi (.byte _ _ _ hi (.byte _ _ _ hi h)))

theorem body_storeDouble {st : Nat} {a : Word} {v : Doubleword} (hi : isStore i = true) (h : Body i s u) :
    Body i s (u.storeDouble st a v) := body_storeWord hi (body_storeWord hi h)

theorem body_popCq (h : Body i s u) : Body i s u.popCq := by
  unfold State.popCq
  split
  · exact .cp _ h
  · exact h

theorem ends_dataAccess {rs1 : RegNum} {src2 : Operand2} {n : Nat} {kind : AccessKind} {f : Nat → Word → Result}
    (hk : ∀ st a, Always (f st a) (Ends i s)) : Always (dataAccess s rs1 src2 n kind f) (Ends i s) :=
  always_needAligned (.trap _ .same) fun _ => always_access (.trap _ .same) fun st => hk st _

theorem ends_altAccess {rs1 : RegNum} {src2 : Operand2} {n : Nat} {kind : AccessKind} {f : Nat → Word → Result}
    (hk : ∀ st a, Always (f st a) (Ends i s)) : Always (altAccess s rs1 src2 id n kind f) (Ends i s) :=
  always_altCheck (.trap _ .same) (.trap _ .same) fun _ _ _ =>
    always_needAligned (.trap _ .same) fun _ => always_access (.trap _ .same) fun st => hk st _

theorem ends_altAccess_pair {rd rs1 : RegNum} {src2 : Operand2} {n : Nat} {kind : AccessKind} {f : Nat → Word → Result}
    (hk : ∀ st a, Always (f st a) (Ends i s)) : Always (altAccess s rs1 src2 (needPair rd) n kind f) (Ends i s) :=
  always_altCheck (.trap _ .same) (.trap _ .same) fun _ _ _ => always_needPair fun _ =>
    always_needAligned (.trap _ .same) fun _ => always_access (.trap _ .same) fun st => hk st _

/-! ### The FPU -/

theorem ends_fpEnabled (hk : Always k (Ends i s)) : Always (fpEnabled s k) (Ends i s) :=
  always_fpEnabled (.trap _ .same) hk

theorem ends_fpNoPending (hk : Always k (Ends i s)) : Always (fpNoPending s k) (Ends i s) :=
  always_ite (fun h => always_next (takeFpException_ends h)) fun _ => hk

theorem ends_fpNoSequence (hk : Always k (Ends i s)) : Always (fpNoSequence s k) (Ends i s) :=
  always_fpNoSequence (.trap _ .sequenceError) fun _ => hk

theorem ends_fpReady (hk : Always k (Ends i s)) : Always (fpReady s k) (Ends i s) :=
  ends_fpEnabled (ends_fpNoPending (ends_fpNoSequence hk))

theorem ends_fpAccess {rs1 : RegNum} {src2 : Operand2} {n : Nat} {kind : AccessKind} {f : Nat → Word → Result}
    (hk : ∀ st a, Always (f st a) (Ends i s)) : Always (fpAccess s rs1 src2 n kind f) (Ends i s) := by
  refine always_needAligned (.trap _ .same) fun _ => ends_fpNoPending ?_
  have ha := always_access (asi := s.dataAsi) (a := s.sum rs1 src2) (n := n) (kind := kind) (P := Ends i s) (.trap _ .same)
    fun st => hk st (s.sum rs1 src2)
  by_cases hr : kind = .read
  · rw [if_pos hr]; exact ends_fpNoSequence ha
  · rw [if_neg hr]; exact ha

theorem body_fpDone (texc : BitVec 5) : Body i s (s.fpDone texc) := .fsr _ rfl .start

theorem ends_fpFail {w : Word} {ftt : BitVec 3} (h : Body i s u) : Ends i s (u.fpFail w ftt) := .advance .fp (.queue _ _ h)

theorem ends_fpComplete {w : Word} {unfinished : Bool} {texc : BitVec 5} {write : State → State}
    (hw : ∀ u, Body i s u → Body i s (write u)) : Always (fpComplete s w unfinished texc write) (Ends i s) :=
  always_fpComplete (fun _ _ => ends_fpFail (.fsr _ rfl .start)) (.advance .fp (hw _ (body_fpDone texc)))

theorem body_writeSingle {rd : RegNum} {r : Rounded} (u : State) (h : Body i s u) : Body i s (writeSingle rd r u) := .freg _ _ h

theorem body_writeDouble {rd : RegNum} {r : Rounded} (u : State) (h : Body i s u) : Body i s (writeDouble rd r u) :=
  body_setFdouble h

theorem body_writeFcc {fcc : BitVec 2} (u : State) (h : Body i s u) : Body i s (writeFcc fcc u) := .fsr _ rfl h

theorem ends_fpToExtended {opf : BitVec 9} {rd rs1 rs2 : RegNum} {may : BitVec 5} {a b : BitVec 96} :
    Always (fpToExtended s opf rd rs1 rs2 may a b) (Ends i s) := ends_fpComplete fun _ => body_setFextended

theorem ends_fpExtended {w : Word} (hk : Always k (Ends i s)) : Always (fpExtended s w k) (Ends i s) :=
  always_fpExtended (ends_fpFail .start) hk

/-! ### The coprocessor -/

theorem ends_cpEnabled {atTrap : State} (h : TrapAt s atTrap) (hk : Always k (Ends i s)) :
    Always (cpEnabled s atTrap k) (Ends i s) := always_cpEnabled (.trap _ h) hk

theorem ends_cpReady (hk : Always k (Ends i s)) : Always (cpReady s k) (Ends i s) :=
  ends_cpEnabled .same (always_cpNoException (.trap _ (trapAt_cpTrapped _)) hk)

theorem ends_cpAccess {atTrap atException : State} {rs1 : RegNum} {src2 : Operand2} {n : Nat} {kind : AccessKind}
    {f : Nat → Word → Result} (ht : TrapAt s atTrap) (he : TrapAt s atException) (hk : ∀ st a, Always (f st a) (Ends i s)) :
    Always (cpAccess s atTrap atException rs1 src2 n kind f) (Ends i s) :=
  always_needAligned (.trap _ ht) fun _ => always_cpNoException (.trap _ he) <|
    always_access (.trap _ ht) fun st => hk st _

theorem ends_cpLoad {rs1 : RegNum} {src2 : Operand2} {n : Nat} {f : Nat → Word → Result}
    (hk : ∀ st a, Always (f st a) (Ends i s)) : Always (cpLoad s rs1 src2 n f) (Ends i s) :=
  ends_cpAccess trapAt_cpLoadTrapped trapAt_cpLoadTrapped hk

theorem ends_cpStore {rs1 : RegNum} {src2 : Operand2} {n : Nat} {f : Nat → Word → Result}
    (hk : ∀ st a, Always (f st a) (Ends i s)) : Always (cpStore s rs1 src2 n f) (Ends i s) :=
  ends_cpAccess .same (trapAt_cpTrapped _) hk

/-! ### Control transfers -/

theorem ends_bicc {cond : BitVec 4} {a : Bool} {disp22 : BitVec 22} (hi : isDelayedTransfer i = true)
    (hc : isConditionalBranch i = isConditional cond) : Always (bicc s cond a disp22) (Ends i s) :=
  always_notInDelaySlot (always_next (.branch _ _ _ _ hi hc))

theorem ends_fbfcc {cond : BitVec 4} {a : Bool} {disp22 : BitVec 22} (hi : isDelayedTransfer i = true)
    (hc : isConditionalBranch i = isConditional cond) : Always (fbfcc s cond a disp22) (Ends i s) :=
  always_notInDelaySlot (ends_fpReady (always_next (.branch _ _ _ _ hi hc)))

theorem ends_cbccc {cond : BitVec 4} {a : Bool} {disp22 : BitVec 22} (hi : isDelayedTransfer i = true)
    (hc : isConditionalBranch i = isConditional cond) : Always (cbccc s cond a disp22) (Ends i s) :=
  always_notInDelaySlot (ends_cpReady (always_next (.branch _ _ _ _ hi hc)))

theorem ends_ticc {cond : BitVec 4} {rs1 : RegNum} {src2 : Operand2} : Always (ticc s cond rs1 src2) (Ends i s) :=
  always_ite (fun _ => ends_raise _) fun _ => ends_advance .start

end

end Sys2Proof.Machine
end

section
/-! SUPPORT. `exec` holds to `Ends`, instruction by instruction, and with it a fetched word. -/

namespace Sys2Proof.Machine

open Sys2Proof

section
variable {i : Instr} {s : State}

/-! ## Bounds on what is written -/

theorem isAligned_callOffset (disp30 : BitVec 30) (a : Word) (h : isAligned a) : isAligned (a + callOffset disp30) := by
  unfold isAligned callOffset at *
  rw [BitVec.toNat_add, toNat_append_add]
  simp
  omega

theorem lowByte_lt (v : Word) : ((v.extractLsb' 0 8).setWidth 32).toNat < 2 ^ 8 := by
  simp
  omega

theorem prevWindow_lt (c : BitVec 5) : (prevWindow c).toNat < Config.nWindows := by
  rw [prevWindow_toNat]; exact Nat.mod_lt _ (by decide)

theorem nextWindow_lt (c : BitVec 5) : (nextWindow c).toNat < Config.nWindows := by
  rw [nextWindow_toNat]; exact Nat.mod_lt _ (by decide)

/-! ## The instructions with a shape of their own -/

theorem ends_changeWindow {window : BitVec 5} {invalid : Trap} {rd rs1 : RegNum} {src2 : Operand2}
    (h : window.toNat < Config.nWindows) : Always (changeWindow s window invalid rd rs1 src2) (Ends i s) :=
  always_ite (fun _ => ends_raise _) fun _ => ends_advance (.reg _ _ _ (.cwp _ h .start))

theorem ends_wrpsr {rd rs1 : RegNum} {src2 : Operand2} : Always (exec (.wrpsr rd rs1 src2) s) (Ends (.wrpsr rd rs1 src2) s) :=
  always_ite (fun _ => ends_raise _) fun h => ends_privileged fun hs => always_next (.writePsr _ rfl hs (not_le.1 h))

theorem ends_rett {rd rs1 : RegNum} {src2 : Operand2} : Always (exec (.rett rd rs1 src2) s) (Ends (.rett rd rs1 src2) s) := by
  refine always_notInDelaySlot (always_ite (fun _ => ends_raise _) fun het => ?_)
  have hoff : s.trapsEnabled = false := by simpa using het
  have herror (tr : Trap) : Ends (.rett rd rs1 src2) s (s.enterError tr) := by
    rw [enterError_eq_trap hoff]; exact .trap _ .same
  refine always_ite (fun _ => always_next (herror _)) fun hs => ?_
  refine always_ite (fun _ => always_next (herror _)) fun _ => ?_
  refine always_ite (fun _ => always_next (herror _)) fun ha => always_next ?_
  exact .rett _ _ ⟨_, _, _, rfl⟩ (by simpa using hs) hoff (not_not.1 ha) (nextWindow_lt _)

end

/-! ## Every instruction -/

/-- Every next state of every instruction is one of its ends. -/
theorem exec_ends (i : Instr) (s : State) : Always (exec i s) (Ends i s) := by
  cases i <;> dsimp only [exec]
  -- what is left of each case is the instruction's meaning, built from the operations above
  -- control transfers
  case call => exact always_notInDelaySlot (always_next (.jump _ _ rfl (isAligned_callOffset _ _)))
  case jmpl =>
    exact always_notInDelaySlot (always_needAligned (.trap _ .same) fun h => always_next (.jump _ _ rfl fun _ => h))
  case rett => exact ends_rett
  case bn | be | ble | bl | bleu | bcs | bneg | bvs | ba | bne | bg | bge | bgu | bcc | bpos | bvc => exact ends_bicc rfl rfl
  case fbn | fbne | fblg | fbul | fbl | fbug | fbg | fbu | fba | fbe | fbue | fbge | fbuge | fble | fbule | fbo =>
    exact ends_fbfcc rfl rfl
  case cbn | cb123 | cb12 | cb13 | cb1 | cb23 | cb2 | cb3 | cba | cb0 | cb03 | cb02 | cb023 | cb01 | cb013 | cb012 =>
    exact ends_cbccc rfl rfl
  case tn | te | tle | tl | tleu | tcs | tneg | tvs | ta | tne | tg | tge | tgu | tcc | tpos | tvc => exact ends_ticc
  -- arithmetic, logic, shifts, windows
  case sethi | add | and | or | xor | sub | andn | orn | xnor | addx | subx | sll | srl | sra | rdy => exact ends_finish .start
  case addcc | andcc | orcc | xorcc | subcc | andncc | orncc | xnorcc | addxcc | subxcc | taddcc | tsubcc =>
    exact ends_finishCc rfl .start
  case taddcctv | tsubcctv => exact always_ite (fun _ => ends_raise _) fun _ => ends_finishCc rfl .start
  case mulscc => exact ends_finishCc rfl (.y _ .start)
  case save => exact ends_changeWindow (prevWindow_lt _)
  case restore => exact ends_changeWindow (nextWindow_lt _)
  -- state registers and the rest
  case rdpsr | rdwim | rdtbr => exact ends_privileged fun _ => ends_finish .start
  case wry => exact always_next (.writeY _)
  case wrpsr => exact ends_wrpsr
  case wrwim => exact ends_privileged fun hs => always_next (.writeWim _ hs (lowByte_lt _))
  case wrtbr => exact ends_privileged fun hs => always_next (.writeTbr _ hs)
  case unimp => exact ends_raise _
  case iflush => exact always_ite (fun _ => ends_advance .start) fun _ => ends_raise _
  -- integer loads and stores
  case ld | ldub | lduh | ldsb | ldsh => exact ends_dataAccess fun _ _ => ends_finish .start
  case ldd => exact always_needPair fun _ => ends_dataAccess fun _ _ => ends_advance (body_setPair .start)
  case stb => exact ends_dataAccess fun _ _ => ends_advance (.byte _ _ _ rfl .start)
  case sth => exact ends_dataAccess fun _ _ => ends_advance (body_storeHalf rfl .start)
  case st => exact ends_dataAccess fun _ _ => ends_advance (body_storeWord rfl .start)
  case std => exact always_needPair fun _ => ends_dataAccess fun _ _ => ends_advance (body_storeDouble rfl .start)
  case ldstub => exact ends_dataAccess fun _ _ => ends_finish (.byte _ _ _ rfl .start)
  case swap => exact ends_dataAccess fun _ _ => ends_finish (body_storeWord rfl .start)
  -- alternate space
  case lda | lduba | lduha | ldsba | ldsha => exact ends_altAccess fun _ _ => ends_finish .start
  case ldda => exact ends_altAccess_pair fun _ _ => ends_advance (body_setPair .start)
  case stba => exact ends_altAccess fun _ _ => ends_advance (.byte _ _ _ rfl .start)
  case stha => exact ends_altAccess fun _ _ => ends_advance (body_storeHalf rfl .start)
  case sta => exact ends_altAccess fun _ _ => ends_advance (body_storeWord rfl .start)
  case stda =>
    exact ends_altAccess_pair fun _ _ => ends_advance (body_storeDouble rfl .start)
  case ldstuba => exact ends_altAccess fun _ _ => ends_finish (.byte _ _ _ rfl .start)
  case swapa => exact ends_altAccess fun _ _ => ends_finish (body_storeWord rfl .start)
  -- floating-point loads and stores
  case ldf => exact ends_fpEnabled (ends_fpAccess fun _ _ => ends_advanceFp (.freg _ _ .start))
  case ldfsr => exact ends_fpEnabled (ends_fpAccess fun _ _ => ends_advanceFp (.fsr _ rfl .start))
  case lddf =>
    exact ends_fpEnabled (always_needPair fun _ => ends_fpAccess fun _ _ => ends_advanceFp (body_setFdouble .start))
  case stf | stfsr => exact ends_fpEnabled (ends_fpAccess fun _ _ => ends_advanceFp (body_storeWord rfl .start))
  case stdf =>
    exact ends_fpEnabled (always_needPair fun _ => ends_fpAccess fun _ _ => ends_advanceFp (body_storeDouble rfl .start))
  case stdfq =>
    exact ends_privileged fun _ => ends_fpEnabled <| ends_fpAccess fun _ _ =>
      ends_advanceFp (body_storeDouble rfl (.popFq .start))
  -- FPops
  case fmovs | fnegs | fabss => exact ends_fpReady (ends_fpComplete fun _ h => .freg _ _ h)
  case fadds | fsubs | fmuls | fdivs | fsqrts | fitos => exact ends_fpReady (ends_fpComplete body_writeSingle)
  case faddd | fsubd | fmuld | fdivd =>
    exact ends_fpReady <| always_needPair fun _ => always_needPair fun _ => always_needPair fun _ =>
      ends_fpComplete body_writeDouble
  case fsqrtd => exact ends_fpReady <| always_needPair fun _ => always_needPair fun _ => ends_fpComplete body_writeDouble
  case fstod | fitod => exact ends_fpReady <| always_needPair fun _ => ends_fpComplete body_writeDouble
  case fdtos => exact ends_fpReady <| always_needPair fun _ => ends_fpComplete body_writeSingle
  case fstoi => exact ends_fpReady (ends_fpComplete fun _ h => .freg _ _ h)
  case fdtoi => exact ends_fpReady <| always_needPair fun _ => ends_fpComplete fun _ h => .freg _ _ h
  case fcmps | fcmpes => exact ends_fpReady (ends_fpComplete body_writeFcc)
  case fcmpd | fcmped =>
    exact ends_fpReady <| always_needPair fun _ => always_needPair fun _ => ends_fpComplete body_writeFcc
  -- extended FPops
  case faddx | fsubx | fmulx | fdivx =>
    exact ends_fpReady <| ends_fpExtended <| always_needTriple fun _ => always_needTriple fun _ => always_needTriple fun _ =>
      ends_fpToExtended
  case fsqrtx =>
    exact ends_fpReady <| ends_fpExtended <| always_needTriple fun _ => always_needTriple fun _ => ends_fpToExtended
  case fitox | fstox => exact ends_fpReady <| ends_fpExtended <| always_needTriple fun _ => ends_fpToExtended
  case fdtox =>
    exact ends_fpReady <| ends_fpExtended <| always_needPair fun _ => always_needTriple fun _ => ends_fpToExtended
  case fxtoi | fxtos =>
    exact ends_fpReady <| ends_fpExtended <| always_needTriple fun _ => ends_fpComplete fun _ h => .freg _ _ h
  case fxtod =>
    exact ends_fpReady <| ends_fpExtended <| always_needTriple fun _ => always_needPair fun _ =>
      ends_fpComplete fun _ => body_setFdouble
  case fcmpx | fcmpex =>
    exact ends_fpReady <| ends_fpExtended <| always_needTriple fun _ => always_needTriple fun _ => ends_fpComplete body_writeFcc
  -- coprocessor
  case cpop1 | cpop2 => exact ends_cpReady (ends_advanceCp (.cp _ .start))
  case ldc | ldcsr =>
    exact ends_cpEnabled trapAt_cpLoadTrapped (ends_cpLoad fun _ _ => ends_advanceCp (.cp _ .start))
  case lddc =>
    exact ends_cpEnabled trapAt_cpLoadTrapped <| always_needPair fun _ => ends_cpLoad fun _ _ =>
      ends_advanceCp (.cp _ (.cp _ .start))
  case stc | stcsr => exact ends_cpEnabled .same (ends_cpStore fun _ _ => ends_advanceCp (body_storeWord rfl .start))
  case stdc =>
    exact ends_cpEnabled .same <| always_needPair fun _ => ends_cpStore fun _ _ => ends_advanceCp (body_storeDouble rfl .start)
  case stdcq =>
    exact ends_privileged fun _ => ends_cpEnabled .same <| ends_cpStore fun _ _ =>
      ends_advanceCp (body_storeDouble rfl (body_popCq .start))

/-- A word that is no instruction ends in a way that is open to every instruction. -/
theorem undecoded_ends (i : Instr) (r : Reject) (w : Word) (s : State) : Always (undecoded r w s) (Ends i s) := by
  cases r with
  | unassignedOpf => exact ends_fpReady (always_next (ends_fpFail .start))
  | unassignedOp2 | unassignedOp3 | truncated => exact ends_raise _

/-- A fetched word, or a refused fetch, ends in a way that is open to some instruction. -/
theorem executeWord_ends (s : State) (o : Option Word) : Always (executeWord exec s o) fun t => ∃ i, Ends i s t := by
  intro t ht
  cases o with
  | none => exact ⟨.unimp 0 0, ends_raise .instructionAccessException t ht⟩
  | some w =>
    cases hd : decode w with
    | ok i => exact ⟨i, exec_ends i s t (by simpa [executeWord, hd] using ht)⟩
    | error r => exact ⟨.unimp 0 0, undecoded_ends _ r w s t (by simpa [executeWord, hd] using ht)⟩

end Sys2Proof.Machine
end

section
/-! The invariant of the state (`State.Inv`) through every change a body makes, every way an instruction ends, and
every step. -/

namespace Sys2Proof.Machine

open Sys2Proof

section
variable {i : Instr} {s u t : State}

/-! ## Aligned words (`10_state.md` R41) -/

theorem isAligned_add {a b : Word} (ha : isAligned a) (hb : isAligned b) : isAligned (a + b) := by
  unfold isAligned at *
  rw [BitVec.toNat_add]
  omega

theorem isAligned_four : isAligned 4 := rfl

theorem isAligned_next {a : Word} (h : isAligned a) : isAligned (a + 4) := isAligned_add h isAligned_four

theorem isAligned_branchOffset (disp22 : BitVec 22) : isAligned (branchOffset disp22) := by
  simp only [isAligned, branchOffset, BitVec.toNat_shiftLeft, Nat.shiftLeft_eq]
  omega

theorem isAligned_tbrWord (tba : BitVec 20) (tt : BitVec 8) : isAligned (tbrWord tba tt) := by
  rw [isAligned, tbrWord_toNat]
  omega

/-! ## Windows of the delayed writes (`70_reset_and_hazards.md` R579) -/

theorem tick_left_le {α : Type} {d : DelayedWrite α} (h : d.left ≤ 3) : d.tick.left ≤ 3 := by
  simp only [DelayedWrite.tick]
  omega

@[simp] theorem close_left {α : Type} (d : DelayedWrite α) : d.close.left = 0 := rfl

/-! ## The changes of a body keep the invariant -/

theorem setRegIn_inv (c : BitVec 5) (r : RegNum) (v : Word) (h : u.Inv) : (u.setRegIn c r v).Inv := by
  unfold State.setRegIn
  split_ifs with h0 h8
  · exact h
  · have hne : (globalIndex r).val ≠ 0 := by
      have := regNum_ne_zero.1 h0
      simpa [globalIndex, Nat.mod_eq_of_lt h8] using this
    exact { h with globalZero := by rw [vector_get_set, if_neg (by simpa using hne)]; exact h.globalZero }
  · exact { h with }

theorem popFq_inv (h : u.Inv) : u.popFq.Inv := by
  unfold State.popFq
  split
  case isFalse => exact h
  case isTrue hm =>
    have hq : u.fq ≠ [] := fun hq => by simp [h.fpuMode.2 hq] at hm
    split
    case h_1 => exact { h with qne := by simp, fpuMode := by simp }
    case h_2 hrest => exact { h with qne := by simpa [h.qne.2 hq] using hrest, fpuMode := by simpa [hm] using hrest }

theorem Body.inv (h : Body i s u) (hs : s.Inv) : u.Inv := by
  induction h with
  | start => exact hs
  | reg c r v _ ih => exact setRegIn_inv c r v ih
  | cwp c hc _ ih => exact { ih with cwpInRange := hc }
  | byte st a v _ _ ih => exact { ih with memory := storeByte_wf _ st a v ih.memory }
  | fsr x hx _ ih => exact { ih with qne := by simpa [hx] using ih.qne }
  | queue e ftt _ ih => exact { ih with qne := by simp, fpuMode := by simp }
  | popFq _ ih => exact popFq_inv ih
  | icc _ _ _ ih | y _ _ ih | freg _ _ _ ih | cp _ _ ih => exact { ih with }

/-! ## The ends of an instruction keep it -/

theorem retire_inv {pc npc : Word} {kind : Prev} (h : u.Inv) (hpc : isAligned pc) (hnpc : isAligned npc) :
    (u.retire pc npc kind).Inv := by
  obtain ⟨hpsr, hwim, htbr, hy⟩ := h.windows
  exact { h with
    pcAligned := hpc, npcAligned := hnpc
    windows := ⟨tick_left_le hpsr, tick_left_le hwim, tick_left_le htbr, tick_left_le hy⟩ }

theorem advance_inv (h : u.Inv) : u.advance.Inv := retire_inv h h.npcAligned (isAligned_next h.npcAligned)

/-- Trap entry, for a trap or an interrupt. -/
theorem enterTrap_inv (tr : Trap) (h : u.Inv) : (u.enterTrap tr).Inv := by
  have hregs := setRegIn_inv (prevWindow u.psr.cwp) 18#5 u.npc (setRegIn_inv (prevWindow u.psr.cwp) 17#5 u.pc h)
  exact { hregs with
    pcAligned := isAligned_tbrWord _ _
    npcAligned := isAligned_next (isAligned_tbrWord _ _)
    cwpInRange := prevWindow_lt _
    tbrBits := by rw [enterTrap_tbr, tbrWord_toNat]; omega
    windows := by simp }

theorem enterError_inv (tr : Trap) (h : u.Inv) : (u.enterError tr).Inv :=
  { h with tbrBits := by rw [enterError_tbr, tbrWord_toNat]; omega }

theorem trap_inv (tr : Trap) (h : u.Inv) : (u.trap tr).Inv := by
  unfold State.trap
  split
  · exact enterTrap_inv tr h
  · exact enterError_inv tr h

theorem TrapAt.inv (h : TrapAt s u) (hs : s.Inv) : u.Inv := by
  cases h with
  | same => exact hs
  | cp | sequenceError => exact { hs with }
  | pending hm => exact { hs with fpuMode := by simpa [hm] using hs.fpuMode }

theorem branch_inv (cond : BitVec 4) (taken a : Bool) (disp22 : BitVec 22) (h : s.Inv) :
    (s.branch cond taken a disp22).Inv := by
  have hnext := isAligned_next h.npcAligned
  have htarget : isAligned (s.branchTarget disp22) := isAligned_add h.pcAligned (isAligned_branchOffset disp22)
  refine iteInduction (fun _ => retire_inv h h.npcAligned htarget) fun _ => ?_
  refine iteInduction (fun _ => retire_inv h htarget (isAligned_next htarget)) fun _ => ?_
  refine iteInduction (fun _ => retire_inv h h.npcAligned hnext) fun _ => ?_
  exact retire_inv h hnext (isAligned_add h.npcAligned rfl)

/-- Every end of an instruction keeps the invariant. -/
theorem Ends.inv (h : Ends i s t) (hs : s.Inv) : t.Inv := by
  obtain ⟨hpsr, hwim, htbr, hy⟩ := (advance_inv hs).windows
  cases h with
  | trap tr hat => exact trap_inv tr (hat.inv hs)
  | advance kind hb => exact retire_inv (hb.inv hs) (hb.inv hs).npcAligned (isAligned_next (hb.inv hs).npcAligned)
  | writePsr v _ _ hv => exact { advance_inv hs with cwpInRange := hv, windows := ⟨le_rfl, hwim, htbr, hy⟩ }
  | writeWim v _ hv => exact { advance_inv hs with wimBits := hv, windows := ⟨hpsr, le_rfl, htbr, hy⟩ }
  | writeTbr tba _ =>
    exact { advance_inv hs with
      tbrBits := by rw [writeTbr_tbr, tbrWord_toNat]; omega
      windows := ⟨hpsr, hwim, le_rfl, hy⟩ }
  | writeY v => exact { advance_inv hs with windows := ⟨hpsr, hwim, htbr, le_rfl⟩ }
  | branch cond taken a disp22 => exact branch_inv cond taken a disp22 hs
  | jump r target _ ha => exact retire_inv (setRegIn_inv _ r s.pc hs) hs.npcAligned (ha hs.pcAligned)
  | rett target window _ _ _ ha hw =>
    exact retire_inv (u := { s with psr := _, pausedDelays := _ }) { hs with cwpInRange := hw } hs.npcAligned ha

/-! ## The step -/

theorem sampled_inv (h : s.Inv) : s.sampled.Inv := { h with }

theorem aged_inv (h : s.Inv) : s.aged.Inv := { h with }

theorem externalReset_inv (h : s.Inv) : s.externalReset.Inv where
  pcAligned := rfl
  npcAligned := isAligned_four
  globalZero := Vector.get_ofFn _ _
  cwpInRange := h.cwpInRange
  wimBits := lowByte_lt _
  tbrBits := by simp only [State.externalReset, tbrWord_toNat]; omega
  qne := by simp [State.externalReset]
  fpuMode := by simp [State.externalReset]
  windows := by simp [State.externalReset]
  memory := h.memory

/-- Settles O7: reset, error mode, an interrupt, or a fetched word, whose instruction keeps the invariant by the way it
ends. -/
theorem stepKeepsInvariant : Obligations.StepKeepsInvariant := by
  intro s t hs ht
  have hsampled := sampled_inv hs
  have hstep : Always (step s) State.Inv := by
    refine always_ite (fun _ => always_next (externalReset_inv hsampled)) fun _ => ?_
    refine always_ite (fun _ => always_next hsampled) fun _ => ?_
    refine always_ite (fun _ => always_next (enterTrap_inv _ hsampled)) fun _ u hu => ?_
    obtain ⟨i, hi⟩ := executeWord_ends _ _ u hu
    exact hi.inv (aged_inv hsampled)
  exact hstep t ht

/-- Settles O8. -/
theorem resetHasInvariant : Obligations.ResetHasInvariant := by
  have hinv : State.reset.Inv :=
    { pcAligned := rfl, npcAligned := rfl, globalZero := by decide, cwpInRange := by decide,
      wimBits := by decide, tbrBits := by decide, qne := by decide, fpuMode := by decide, windows := by decide,
      memory := Memory.wf_nil }
  exact ⟨hinv, by decide⟩

end

end Sys2Proof.Machine
end

section
/-! The statements of `10_state.md` that the way an instruction ends decides: PC and nPC after an instruction that is no
control transfer, and the condition codes; and what a step runs. -/

namespace Sys2Proof.Machine

open Sys2Proof

section
variable {i : Instr} {s u t : State}

/-! ## PC and nPC (`10_state.md` R42) -/

/-- No change of a body moves nPC. -/
theorem Body.npc_eq (h : Body i s u) : u.npc = s.npc := by
  induction h with
  | start => rfl
  | reg _ _ _ _ ih => rw [setRegIn_npc, ih]
  | popFq _ ih => rw [popFq_npc, ih]
  | icc _ _ _ ih | cwp _ _ _ ih | y _ _ ih | byte _ _ _ _ _ ih | freg _ _ _ ih | fsr _ _ _ ih | queue _ _ _ ih
    | cp _ _ ih => exact ih

theorem TrapAt.trapped (h : TrapAt s u) (tr : Trap) : trapped s (u.trap tr) := by
  cases h <;> exact ⟨_, tr, rfl, rfl, rfl, rfl⟩

/-- An instruction that is no delayed control transfer ends with `advance` or a trap. -/
theorem Ends.advanced_or_trapped (h : Ends i s t) (hi : isDelayedTransfer i = false) : advanced s t ∨ trapped s t := by
  cases h with
  | trap tr hat => exact .inr (hat.trapped tr)
  | advance kind hb => exact .inl ⟨hb.npc_eq, by rw [retire_npc, hb.npc_eq]⟩
  | writePsr | writeWim | writeTbr | writeY => exact .inl ⟨rfl, rfl⟩
  | branch _ _ _ _ htransfer | jump _ _ htransfer => simp [hi] at htransfer
  | rett _ _ hrett =>
    obtain ⟨rd, rs1, src2, rfl⟩ := hrett
    simp [isDelayedTransfer] at hi

/-- Settles O33. -/
theorem nonTransfersAdvance : Obligations.NonTransfersAdvance :=
  fun i s t hi ht => (exec_ends i s t ht).advanced_or_trapped hi

/-! ## The condition codes (`10_state.md` R46) -/

/-- Only the body of an instruction that writes icc changes them. -/
theorem Body.icc_eq (h : Body i s u) (hi : writesIcc i = false) : u.psr.icc = s.psr.icc := by
  induction h with
  | start => rfl
  | icc _ hw => simp [hi] at hw
  | reg _ _ _ _ ih => rw [setRegIn_psr, ih]
  | popFq _ ih => rw [popFq_psr, ih]
  | cwp _ _ _ ih | y _ _ ih | byte _ _ _ _ _ ih | freg _ _ _ ih | fsr _ _ _ ih | queue _ _ _ ih | cp _ _ ih => exact ih

theorem trap_icc (tr : Trap) : (u.trap tr).psr.icc = u.psr.icc := by
  unfold State.trap
  split <;> rfl

theorem TrapAt.psr_eq (h : TrapAt s u) : u.psr = s.psr := by cases h <;> rfl

theorem Ends.icc_eq (h : Ends i s t) (hi : writesIcc i = false) : t.psr.icc = s.psr.icc := by
  cases h with
  | trap tr hat => rw [trap_icc, hat.psr_eq]
  | advance kind hb => exact hb.icc_eq hi
  | writePsr _ hw => simp [hi] at hw
  | branch => rw [branch_psr]
  | jump r => rw [retire_psr, setReg_psr]
  | writeWim | writeTbr | writeY | rett => rfl

/-- Settles O60. -/
theorem onlyCcWritesFlags : Obligations.OnlyCcWritesFlags := fun i s t hi ht => (exec_ends i s t ht).icc_eq hi

/-! ## The step (`10_state.md` R30) -/

/-- Settles O1. -/
theorem stepRunsDecodedInstruction : Obligations.StepRunsDecodedInstruction := by
  intro s w i hreset herror hirq hfetch hdecode
  have hfetch' : s.sampled.fetch = some w := hfetch
  simp [step, stepWith, hreset, herror, hirq, hfetch', executeWord, hdecode]

end

end Sys2Proof.Machine
end

section
/-! Register windows (`10_state.md` R32, R33): when two register names of windows are one physical register. -/

namespace Sys2Proof.Machine

open Sys2Proof

/-- A register is what its physical register holds. -/
theorem regIn_of_physical_eq (s : State) {w v : BitVec 5} {n m : RegNum} (h : physical w n = physical v m) :
    s.regIn w n = s.regIn v m := by
  by_cases hn : n.toNat < 8 <;> by_cases hm : m.toNat < 8
  · rw [physical_global hn, physical_global hm] at h
    obtain rfl : n = m := BitVec.eq_of_toNat_eq h
    simp only [State.regIn, if_pos hn]
  · rw [physical_global hn, physical_windowed hm] at h
    omega
  · rw [physical_windowed hn, physical_global hm] at h
    omega
  · rw [physical_windowed hn, physical_windowed hm] at h
    have hindex : windowIndex w n = windowIndex v m := Fin.ext (by omega)
    have hn0 : n ≠ 0#5 := by rintro rfl; simp at hn
    have hm0 : m ≠ 0#5 := by rintro rfl; simp at hm
    simp only [State.regIn, if_neg hn, if_neg hm, if_neg hn0, if_neg hm0, hindex]

theorem windowIndex_val (w : BitVec 5) (n : RegNum) : (windowIndex w n).val = (16 * w.toNat + (n.toNat - 8)) % 128 := rfl

theorem regNum_add_sixteen (n : RegNum) : (n + 16).toNat = (n.toNat + 16) % 32 := BitVec.toNat_add n 16

/-- The ins of a window are physically the outs of the next. -/
theorem physical_in_eq_out (w : BitVec 5) {n : RegNum} (hlo : 8 ≤ n.toNat) (hhi : n.toNat < 16) :
    physical w (n + 16) = physical (BitVec.ofNat 5 ((w.toNat + 1) % 8)) n := by
  have hin : (n + 16).toNat = n.toNat + 16 := by rw [regNum_add_sixteen]; omega
  rw [physical_windowed (by omega), physical_windowed (by omega), windowIndex_val, windowIndex_val, hin, BitVec.toNat_ofNat]
  omega

/-- Two registers of windows are one physical register only as the same global, the same register, or an in and an out
of neighbouring windows. -/
theorem physical_eq_cases {w v : BitVec 5} {n m : RegNum} (hw : w.toNat < 8) (hv : v.toNat < 8)
    (h : physical w n = physical v m) :
    n = m ∧ (n.toNat < 8 ∨ w = v) ∨ v.toNat = (w.toNat + 1) % 8 ∧ n = m + 16 ∧ 8 ≤ m.toNat ∧ m.toNat < 16 ∨
      w.toNat = (v.toNat + 1) % 8 ∧ m = n + 16 ∧ 8 ≤ n.toNat ∧ n.toNat < 16 := by
  simp only [← BitVec.toNat_inj, regNum_add_sixteen]
  by_cases hn : n.toNat < 8 <;> by_cases hm : m.toNat < 8
  · rw [physical_global hn, physical_global hm] at h
    omega
  · rw [physical_global hn, physical_windowed hm] at h
    omega
  · rw [physical_windowed hn, physical_global hm] at h
    omega
  · have := n.isLt
    have := m.isLt
    rw [physical_windowed hn, physical_windowed hm, windowIndex_val, windowIndex_val] at h
    -- windows are 16 registers apart
    have hapart : n.toNat % 16 = m.toNat % 16 := by omega
    obtain hnm | hnm | hnm : n.toNat = m.toNat ∨ n.toNat = m.toNat + 16 ∨ m.toNat = n.toNat + 16 := by omega
    · exact .inl ⟨hnm, .inr (by omega)⟩
    · exact .inr (.inl (by omega))
    · exact .inr (.inr (by omega))

/-- Settles O10. -/
theorem windowOverlap : Obligations.WindowOverlap := by
  refine ⟨fun s w n _ hlo hhi => regIn_of_physical_eq s (physical_in_eq_out w hlo hhi),
    fun w v n m hw hv => physical_eq_cases hw hv, fun s w v n hn => ?_, fun s w v n m x => regIn_setRegIn s w n x v m,
    fun s w v n m x hw hv hlo hhi hne => ?_⟩
  · exact regIn_of_physical_eq s (by rw [physical_global hn, physical_global hn])
  · have hother : physical v m ≠ physical w n := fun h => by
      rcases physical_eq_cases hv hw h with ⟨rfl, hg | rfl⟩ | ⟨-, -, -, hout⟩ | ⟨-, rfl, hout, hout'⟩
      · omega
      · simp at hne
      · omega
      · rw [regNum_add_sixteen] at hhi
        omega
    rw [regIn_setRegIn, if_neg fun h => hother h.2]

end Sys2Proof.Machine
end

section
/-! What every instruction does to memory (`20_memory.md` R102, R103, R107), by the changes its body makes and the way
it ends. -/

namespace Sys2Proof.Machine

open Sys2Proof

section
variable {i : Instr} {s u t : State}

/-- Only the body of a store changes memory: a byte store is its only change that does. -/
theorem Body.mem_eq (h : Body i s u) (hi : isStore i = false) : u.mem = s.mem := by
  induction h with
  | start => rfl
  | byte _ _ _ hstore => simp [hi] at hstore
  | reg _ _ _ _ ih => rw [setRegIn_mem, ih]
  | popFq _ ih => rw [popFq_mem, ih]
  | icc _ _ _ ih | cwp _ _ _ ih | y _ _ ih | freg _ _ _ ih | fsr _ _ _ ih | queue _ _ _ ih | cp _ _ ih => exact ih

theorem TrapAt.mem_eq (h : TrapAt s u) : u.mem = s.mem := by cases h <;> rfl

/-- The one end that changes memory is the `advance` of a store. -/
theorem Ends.isStore_and_advanced (h : Ends i s t) (hmem : t.mem ≠ s.mem) : isStore i = true ∧ advanced s t := by
  cases h with
  | advance kind hb =>
    refine ⟨?_, hb.npc_eq, by rw [retire_npc, hb.npc_eq]⟩
    by_contra hi
    exact hmem (hb.mem_eq (Bool.eq_false_of_not_eq_true hi))
  | trap tr hat => exact absurd (by rw [trap_mem, hat.mem_eq]) hmem
  | branch => exact absurd (branch_mem ..) hmem
  | jump r => exact absurd (by rw [retire_mem, setReg_mem]) hmem
  | writePsr | writeWim | writeTbr | writeY | rett => exact absurd rfl hmem

/-- Settles O59. -/
theorem onlyStoresWriteMemory : Obligations.OnlyStoresWriteMemory :=
  fun i s t ht hmem => (exec_ends i s t ht).isStore_and_advanced hmem

end

end Sys2Proof.Machine
end

section
/-! SUPPORT. The checks before a data access (`20_memory.md` R98, R106): one that passes leaves the outcome to what
follows, and a misaligned or refused access is a trap, in the integer unit, the FPU and the coprocessor. -/

namespace Sys2Proof.Machine

open Sys2Proof

section
variable {P : State → Prop} {s : State} {k : Result} {rd rs1 : RegNum} {src2 : Operand2} {n : Nat} {kind : AccessKind}
  {f : Nat → Word → Result}

/-! ## Checks that pass -/

theorem completes_needPair (hrd : rd.toNat % 2 = 0) (hk : completes k P) : completes (needPair rd k) P := by
  rwa [needPair_of hrd]

theorem completes_privileged (hs : s.supervisor = true) (hk : completes k P) : completes (privileged s k) P := by
  rwa [privileged, if_pos hs]

theorem completes_fpEnabled (hef : s.efView = true) (hfpu : s.platform.fpuPresent = true) (hk : completes k P) :
    completes (fpEnabled s k) P := by
  rwa [fpEnabled, if_pos (by rw [hef, hfpu]; rfl)]

theorem completes_cpEnabled {atTrap : State} (hec : s.ecView = true) (hcp : s.platform.cpPresent = true)
    (hk : completes k P) : completes (cpEnabled s atTrap k) P := by
  rwa [cpEnabled, if_pos (by rw [hec, hcp]; rfl)]

/-! ## The integer unit -/

theorem completes_needAligned_misaligned {a : Word} (ha : a.toNat % n ≠ 0) :
    completes (needAligned s a n k) (trapsTo s 0x07) := by
  rw [needAligned_not ha]
  exact raise_effect s .memoryAddressNotAligned

theorem completes_access_refused {asi : BitVec 8} {a : Word} {g : Nat → Result}
    (hf : s.platform.memFault asi a n kind = true) : completes (access s asi a n kind g) (trapsTo s 0x09) := by
  rw [access_refused hf]
  exact raise_effect s .dataAccessException

theorem dataAccess_misaligned (ha : (s.sum rs1 src2).toNat % n ≠ 0) :
    completes (dataAccess s rs1 src2 n kind f) (trapsTo s 0x07) := completes_needAligned_misaligned ha

theorem dataAccess_refused (ha : (s.sum rs1 src2).toNat % n = 0)
    (hf : s.platform.memFault s.dataAsi (s.sum rs1 src2) n kind = true) :
    completes (dataAccess s rs1 src2 n kind f) (trapsTo s 0x09) := by
  rw [dataAccess, needAligned_of ha]
  exact completes_access_refused hf

/-! ## The FPU -/

theorem fpAccess_misaligned (ha : (s.sum rs1 src2).toNat % n ≠ 0) :
    completes (fpAccess s rs1 src2 n kind f) (trapsTo s 0x07) := completes_needAligned_misaligned ha

theorem fpNoPending_of (hm : s.fpuMode ≠ .exceptionPending) : fpNoPending s k = k := if_neg hm

theorem fpNoSequence_of (hm : s.fpuMode ≠ .exception) : fpNoSequence s k = k := if_neg hm

/-- A load is a sequence error in exception mode, a store is not (`41_load_store_fp_cp.md` R268). -/
theorem fpAccess_refused (hpending : s.fpuMode ≠ .exceptionPending) (hload : kind = .read → s.fpuMode ≠ .exception)
    (ha : (s.sum rs1 src2).toNat % n = 0) (hf : s.platform.memFault s.dataAsi (s.sum rs1 src2) n kind = true) :
    completes (fpAccess s rs1 src2 n kind f) (trapsTo s 0x09) := by
  rw [fpAccess, needAligned_of ha, fpNoPending_of hpending]
  split
  · rw [fpNoSequence_of (hload ‹_›)]
    exact completes_access_refused hf
  · exact completes_access_refused hf

theorem fpAccess_load_refused (hm : s.fpuMode = .execute) (ha : (s.sum rs1 src2).toNat % n = 0)
    (hf : s.platform.memFault s.dataAsi (s.sum rs1 src2) n .read = true) :
    completes (fpAccess s rs1 src2 n .read f) (trapsTo s 0x09) := fpAccess_refused (by simp [hm]) (by simp [hm]) ha hf

theorem fpAccess_store_refused (hm : s.fpuMode ≠ .exceptionPending) (ha : (s.sum rs1 src2).toNat % n = 0)
    (hf : s.platform.memFault s.dataAsi (s.sum rs1 src2) n .write = true) :
    completes (fpAccess s rs1 src2 n .write f) (trapsTo s 0x09) := fpAccess_refused hm nofun ha hf

/-! ## The coprocessor -/

theorem cpNoException_of {atTrap : State} (he : s.cp.exceptionPending = false) : cpNoException s atTrap k = k := by
  simp [cpNoException, he]

theorem cpLoadTrapped_of (hcp : s.platform.cpPresent = true) :
    s.cpLoadTrapped = s.cpTrapped (Config.cpAfterLoadTrap s.draws s.cp) := if_pos hcp

theorem cpAccess_misaligned {atTrap atException : State} (ha : (s.sum rs1 src2).toNat % n ≠ 0) :
    completes (cpAccess s atTrap atException rs1 src2 n kind f) (trapsTo atTrap 0x07) :=
  completes_needAligned_misaligned ha

theorem cpAccess_refused {atTrap atException : State} (hplatform : atTrap.platform = s.platform)
    (ha : (s.sum rs1 src2).toNat % n = 0) (he : s.cp.exceptionPending = false)
    (hf : s.platform.memFault s.dataAsi (s.sum rs1 src2) n kind = true) :
    completes (cpAccess s atTrap atException rs1 src2 n kind f) (trapsTo atTrap 0x09) := by
  rw [cpAccess, needAligned_of ha, cpNoException_of he]
  exact completes_access_refused (by rwa [hplatform])

/-- The trap of a coprocessor load is taken with the coprocessor's state open (U9, log 32). -/
theorem cpLoad_misaligned (hcp : s.platform.cpPresent = true) (ha : (s.sum rs1 src2).toNat % n ≠ 0) :
    completes (cpLoad s rs1 src2 n f) (trapsTo (s.cpTrapped (Config.cpAfterLoadTrap s.draws s.cp)) 0x07) := by
  rw [← cpLoadTrapped_of hcp]
  exact cpAccess_misaligned ha

@[inherit_doc cpLoad_misaligned]
theorem cpLoad_refused (hcp : s.platform.cpPresent = true) (ha : (s.sum rs1 src2).toNat % n = 0)
    (he : s.cp.exceptionPending = false) (hf : s.platform.memFault s.dataAsi (s.sum rs1 src2) n .read = true) :
    completes (cpLoad s rs1 src2 n f) (trapsTo (s.cpTrapped (Config.cpAfterLoadTrap s.draws s.cp)) 0x09) := by
  rw [← cpLoadTrapped_of hcp]
  exact cpAccess_refused (cpLoadTrapped_platform s) ha he hf

theorem cpStore_misaligned (ha : (s.sum rs1 src2).toNat % n ≠ 0) :
    completes (cpStore s rs1 src2 n f) (trapsTo s 0x07) := cpAccess_misaligned ha

theorem cpStore_refused (he : s.cp.exceptionPending = false) (ha : (s.sum rs1 src2).toNat % n = 0)
    (hf : s.platform.memFault s.dataAsi (s.sum rs1 src2) n .write = true) :
    completes (cpStore s rs1 src2 n f) (trapsTo s 0x09) := cpAccess_refused rfl ha he hf

end

/-! ## Every ordinary access -/

/-- Settles O23: the checks before the access pass, and what is left is the access of the unit. -/
theorem dataAccessTraps : Obligations.DataAccessTraps := by
  intro s rd rs1 src2
  dsimp only [exec]
  refine ⟨dataAccess_misaligned, dataAccess_misaligned, dataAccess_misaligned, dataAccess_misaligned,
    dataAccess_misaligned, dataAccess_misaligned, dataAccess_refused, dataAccess_refused, dataAccess_refused,
    dataAccess_refused, dataAccess_refused, dataAccess_refused, dataAccess_refused, dataAccess_refused,
    dataAccess_refused, dataAccess_refused, fun hrd => ?doubleword, fun hef hfpu => ?fpu, fun hec hcp => ?coprocessor⟩
  case doubleword =>
    have pair {k : Result} {P : State → Prop} : completes k P → completes (needPair rd k) P := completes_needPair hrd
    exact ⟨fun ha => pair (dataAccess_misaligned ha), fun ha => pair (dataAccess_misaligned ha),
      fun ha hf => pair (dataAccess_refused ha hf), fun ha hf => pair (dataAccess_refused ha hf)⟩
  case fpu =>
    have enabled {k : Result} {P : State → Prop} : completes k P → completes (fpEnabled s k) P :=
      completes_fpEnabled hef hfpu
    have misaligned {n : Nat} {kind : AccessKind} {f : Nat → Word → Result} (ha : (s.sum rs1 src2).toNat % n ≠ 0) :
        completes (fpEnabled s (fpAccess s rs1 src2 n kind f)) (trapsTo s 0x07) := enabled (fpAccess_misaligned ha)
    refine ⟨misaligned, misaligned, misaligned, misaligned, fun hs ha => completes_privileged hs (misaligned ha),
      fun hrd => ⟨fun ha => ?lddf, fun ha => ?stdf⟩, fun hm => ?loads, fun hm => ?stores⟩
    case lddf | stdf => exact enabled (completes_needPair hrd (fpAccess_misaligned ha))
    case loads =>
      exact ⟨fun ha hf => enabled (fpAccess_load_refused hm ha hf), fun ha hf => enabled (fpAccess_load_refused hm ha hf),
        fun hrd ha hf => enabled (completes_needPair hrd (fpAccess_load_refused hm ha hf))⟩
    case stores =>
      exact ⟨fun ha hf => enabled (fpAccess_store_refused hm ha hf), fun ha hf => enabled (fpAccess_store_refused hm ha hf),
        fun hs ha hf => completes_privileged hs (enabled (fpAccess_store_refused hm ha hf)),
        fun hrd ha hf => enabled (completes_needPair hrd (fpAccess_store_refused hm ha hf))⟩
  case coprocessor =>
    have enabled {atTrap : State} {k : Result} {P : State → Prop} : completes k P → completes (cpEnabled s atTrap k) P :=
      completes_cpEnabled hec hcp
    refine ⟨⟨?ldc, ?ldcRefused⟩, ⟨?ldcsr, ?ldcsrRefused⟩, fun hrd => ⟨?lddc, ?lddcRefused⟩, ⟨?stc, ?stcRefused⟩,
      ⟨?stcsr, ?stcsrRefused⟩, fun hrd => ⟨?stdc, ?stdcRefused⟩, fun hs => ⟨?stdcq, ?stdcqRefused⟩⟩
    case ldc | ldcsr => exact fun ha => enabled (cpLoad_misaligned hcp ha)
    case ldcRefused | ldcsrRefused => exact fun ha he hf => enabled (cpLoad_refused hcp ha he hf)
    case lddc => exact fun ha => enabled (completes_needPair hrd (cpLoad_misaligned hcp ha))
    case lddcRefused => exact fun ha he hf => enabled (completes_needPair hrd (cpLoad_refused hcp ha he hf))
    case stc | stcsr => exact fun ha => enabled (cpStore_misaligned ha)
    case stcRefused | stcsrRefused => exact fun he ha hf => enabled (cpStore_refused he ha hf)
    case stdc => exact fun ha => enabled (completes_needPair hrd (cpStore_misaligned ha))
    case stdcRefused => exact fun he ha hf => enabled (completes_needPair hrd (cpStore_refused he ha hf))
    case stdcq => exact fun ha => completes_privileged hs (enabled (cpStore_misaligned ha))
    case stdcqRefused => exact fun he ha hf => completes_privileged hs (enabled (cpStore_refused he ha hf))

end Sys2Proof.Machine
end

section
/-! The fetch (`20_memory.md` R96, R97, R112). -/

namespace Sys2Proof.Machine

open Sys2Proof

section
variable {s : State}

/-- With no store remembered, a byte fetched ahead is the byte in memory. -/
theorem byteAsOf_of_stale_nil (hstale : s.stale = []) (age key : Nat) : byteAsOf s age key = Memory.read s.mem key := by
  rw [byteAsOf, hstale, List.foldl_nil]

theorem wordAsOf_of_stale_nil (hstale : s.stale = []) (age storage : Nat) (addr : Word) :
    wordAsOf s age storage addr = s.mem.word storage addr := by
  simp only [wordAsOf, byteAsOf_of_stale_nil hstale]
  rfl

theorem fetchedWord_of_stale_nil (hstale : s.stale = []) (storage : Nat) (addr : Word) :
    fetchedWord s storage addr = s.mem.word storage addr := by
  simp only [fetchedWord, wordAsOf_of_stale_nil hstale, and_self, if_true]

/-- Outside the window of a WRPSR the fetch is from the instruction space of PSR.S. -/
theorem fetch_of_psrWrite_closed (hpsr : s.psrWrite.left = 0) : s.fetch = fetchAs s s.psr.s := by
  simp [State.fetch, DelayedWrite.doubts, hpsr]

/-- Settles O2. -/
theorem fetchReadsMemoryAtPc : Obligations.FetchReadsMemoryAtPc := by
  intro s hpsr hstale
  rw [fetch_of_psrWrite_closed hpsr, fetchAs, fetchedWord_of_stale_nil hstale, word_eq]
  rfl

end

end Sys2Proof.Machine
end

section
/-! The decoder and the encoder (`30_encoding.md` R131 to R155): each takes back what the other makes. -/

namespace Sys2Proof

/-! ## The format of a word selects its table (R157) -/

section
variable {w : Word}

theorem decode_of_op_zero (hop : opOf w = 0#2) : decode w = decodeFormat2 w := by rw [decode, hop]; rfl

theorem decode_of_op_one (hop : opOf w = 1#2) : decode w = .ok (.call (disp30Of w)) := by rw [decode, hop]; rfl

theorem decode_of_op_two (hop : opOf w = 2#2) : decode w = decodeArith w := by rw [decode, hop]; rfl

theorem decode_of_op_three (hop : opOf w = 3#2) : decode w = decodeMemory w := by rw [decode, hop]; rfl

end

/-! ## The fields of the encoder's words (R131, R132, R133) -/

section
variable (a : Bool) (cond : BitVec 4) (op2 : BitVec 3) (disp22 : BitVec 22) (op : BitVec 2) (op3 : BitVec 6)
  (opf : BitVec 9) (rd rs1 rs2 : RegNum) (src2 : Operand2)

theorem callWord_number (disp30 : BitVec 30) : (1#2 ++ disp30 : Word).toNat = 2 ^ 30 + disp30.toNat := by
  rw [append_number, BitVec.toNat_ofNat]
  omega

theorem opOf_callWord (disp30 : BitVec 30) : opOf (1#2 ++ disp30) = 1#2 := by
  apply BitVec.eq_of_toNat_eq
  rw [opOf, field_number, callWord_number, BitVec.toNat_ofNat]
  omega

theorem disp30Of_callWord (disp30 : BitVec 30) : disp30Of (1#2 ++ disp30) = disp30 := by
  apply BitVec.eq_of_toNat_eq
  rw [disp30Of, field_number, callWord_number]
  omega

@[simp] theorem opOf_branchWord : opOf (branchWord a cond op2 disp22) = 0#2 := opOf_format2 _ _ _

@[simp] theorem op2Of_branchWord : op2Of (branchWord a cond op2 disp22) = op2 := op2Of_format2 _ _ _

@[simp] theorem imm22Of_branchWord : imm22Of (branchWord a cond op2 disp22) = disp22 := imm22Of_format2 _ _ _

@[simp] theorem condOf_branchWord : condOf (branchWord a cond op2 disp22) = cond := by simp [branchWord]

@[simp] theorem bit29Of_branchWord : bit29Of (branchWord a cond op2 disp22) = a :=
  (bit29Of_format2 _ _ _).trans (annul_of_bits a cond)

@[simp] theorem opOf_format3Word : opOf (format3Word op op3 rd rs1 src2) = op := opOf_format3 _ _ _ _ _

@[simp] theorem op3Of_format3Word : op3Of (format3Word op op3 rd rs1 src2) = op3 := op3Of_format3 _ _ _ _ _

@[simp] theorem rdOf_format3Word : rdOf (format3Word op op3 rd rs1 src2) = rd := rdOf_format3 _ _ _ _ _

@[simp] theorem rs1Of_format3Word : rs1Of (format3Word op op3 rd rs1 src2) = rs1 := rs1Of_format3 _ _ _ _ _

@[simp] theorem operand2Of_format3Word : operand2Of (low14Of (format3Word op op3 rd rs1 src2)) = src2 := by
  simp [format3Word]

@[simp] theorem opOf_operateWord : opOf (operateWord op3 opf rd rs1 rs2) = 2#2 := opOf_format3 _ _ _ _ _

@[simp] theorem op3Of_operateWord : op3Of (operateWord op3 opf rd rs1 rs2) = op3 := op3Of_format3 _ _ _ _ _

@[simp] theorem rdOf_operateWord : rdOf (operateWord op3 opf rd rs1 rs2) = rd := rdOf_format3 _ _ _ _ _

@[simp] theorem rs1Of_operateWord : rs1Of (operateWord op3 opf rd rs1 rs2) = rs1 := rs1Of_format3 _ _ _ _ _

@[simp] theorem opfOf_operateWord : opfOf (operateWord op3 opf rd rs1 rs2) = opf := by simp [operateWord]

@[simp] theorem rs2Of_operateWord : rs2Of (operateWord op3 opf rd rs1 rs2) = rs2 := by simp [operateWord]

@[simp] theorem opOf_ticcWord : opOf (ticcWord a cond rs1 src2) = 2#2 := opOf_format3 _ _ _ _ _

@[simp] theorem op3Of_ticcWord : op3Of (ticcWord a cond rs1 src2) = 0x3A#6 := op3Of_format3 _ _ _ _ _

@[simp] theorem rs1Of_ticcWord : rs1Of (ticcWord a cond rs1 src2) = rs1 := rs1Of_format3 _ _ _ _ _

@[simp] theorem condOf_ticcWord : condOf (ticcWord a cond rs1 src2) = cond := by simp [ticcWord]

@[simp] theorem bit29Of_ticcWord : bit29Of (ticcWord a cond rs1 src2) = a :=
  (bit29Of_format3 _ _ _ _ _).trans (annul_of_bits a cond)

@[simp] theorem operand2Of_ticcWord : operand2Of (low14Of (ticcWord a cond rs1 src2)) = src2 := by simp [ticcWord]

/-! ## Decoding the encoder's words, family by family (R151, R152, R153) -/

theorem decode_bicc : decode (branchWord a cond 2#3 disp22) = .ok (decodeBicc (branchWord a cond 2#3 disp22)) := by
  simp [decode_of_op_zero, decodeFormat2]

theorem decode_fbfcc : decode (branchWord a cond 6#3 disp22) = .ok (decodeFbfcc (branchWord a cond 6#3 disp22)) := by
  simp [decode_of_op_zero, decodeFormat2]

theorem decode_cbccc : decode (branchWord a cond 7#3 disp22) = .ok (decodeCbccc (branchWord a cond 7#3 disp22)) := by
  simp [decode_of_op_zero, decodeFormat2]

theorem decode_ticc : decode (ticcWord a cond rs1 src2) = .ok (decodeTicc (ticcWord a cond rs1 src2)) := by
  simp [decode_of_op_two, decodeArith]

theorem decode_fpop1 : decode (operateWord 0x34#6 opf rd rs1 rs2) = decodeFpop1 (operateWord 0x34#6 opf rd rs1 rs2) := by
  simp [decode_of_op_two, decodeArith]

theorem decode_fpop2 : decode (operateWord 0x35#6 opf rd rs1 rs2) = decodeFpop2 (operateWord 0x35#6 opf rd rs1 rs2) := by
  simp [decode_of_op_two, decodeArith]

end

/-- Settles O3: by the family of the instruction. -/
theorem decodeEncode : Obligations.DecodeEncode := by
  intro i
  cases i
  case call => rw [encode, decode_of_op_one (opOf_callWord _), disp30Of_callWord]
  case unimp | sethi => simp [encode, decode_of_op_zero, decodeFormat2]
  case bn | be | ble | bl | bleu | bcs | bneg | bvs | ba | bne | bg | bge | bgu | bcc | bpos | bvc =>
    rw [encode, decode_bicc, decodeBicc, condOf_branchWord, bit29Of_branchWord, imm22Of_branchWord]
    rfl
  case fbn | fbne | fblg | fbul | fbl | fbug | fbg | fbu | fba | fbe | fbue | fbge | fbuge | fble | fbule | fbo =>
    rw [encode, decode_fbfcc, decodeFbfcc, condOf_branchWord, bit29Of_branchWord, imm22Of_branchWord]
    rfl
  case cbn | cb123 | cb12 | cb13 | cb1 | cb23 | cb2 | cb3 | cba | cb0 | cb03 | cb02 | cb023 | cb01 | cb013 | cb012 =>
    rw [encode, decode_cbccc, decodeCbccc, condOf_branchWord, bit29Of_branchWord, imm22Of_branchWord]
    rfl
  case add | and | or | xor | sub | andn | orn | xnor | addx | subx | addcc | andcc | orcc | xorcc | subcc | andncc |
      orncc | xnorcc | addxcc | subxcc | taddcc | tsubcc | taddcctv | tsubcctv | mulscc | sll | srl | sra | wry | wrpsr |
      wrwim | wrtbr | jmpl | rett | iflush | save | restore =>
    rw [encode, decode_of_op_two (opOf_format3Word ..), decodeArith, op3Of_format3Word, rdOf_format3Word, rs1Of_format3Word,
      operand2Of_format3Word]
    rfl
  case rdy | rdpsr | rdwim | rdtbr | cpop1 | cpop2 => simp [encode, decode_of_op_two, decodeArith]
  case fmovs | fnegs | fabss | fsqrts | fsqrtd | fsqrtx | fadds | faddd | faddx | fsubs | fsubd | fsubx | fmuls | fmuld |
      fmulx | fdivs | fdivd | fdivx | fitos | fitod | fitox | fstoi | fdtoi | fxtoi | fstod | fstox | fdtos | fdtox |
      fxtos | fxtod =>
    rw [encode, decode_fpop1, decodeFpop1, opfOf_operateWord, rdOf_operateWord, rs1Of_operateWord, rs2Of_operateWord]
    rfl
  case fcmps | fcmpd | fcmpx | fcmpes | fcmped | fcmpex =>
    rw [encode, decode_fpop2, decodeFpop2, opfOf_operateWord, rdOf_operateWord, rs1Of_operateWord, rs2Of_operateWord]
    rfl
  case tn | te | tle | tl | tleu | tcs | tneg | tvs | ta | tne | tg | tge | tgu | tcc | tpos | tvc =>
    rw [encode, decode_ticc, decodeTicc, condOf_ticcWord, bit29Of_ticcWord, rs1Of_ticcWord, operand2Of_ticcWord]
    rfl
  case ld | ldub | lduh | ldd | st | stb | sth | std | ldsb | ldsh | ldstub | swap | lda | lduba | lduha | ldda | sta |
      stba | stha | stda | ldsba | ldsha | ldstuba | swapa | ldf | ldfsr | lddf | stf | stfsr | stdfq | stdf | ldc | ldcsr |
      lddc | stc | stcsr | stdcq | stdc =>
    rw [encode, decode_of_op_three (opOf_format3Word ..), decodeMemory, op3Of_format3Word, rdOf_format3Word, rs1Of_format3Word,
      operand2Of_format3Word]
    rfl

section
variable {w : Word} {i : Instr} {r : Reject}

/-! ## A word is the encoder's word of its fields (R131, R132, R133) -/

theorem callWord_of_fields (hop : opOf w = 1#2) : (1#2 ++ disp30Of w : Word) = w := by
  have h := congrArg BitVec.toNat hop
  rw [opOf, field_number, BitVec.toNat_ofNat] at h
  apply BitVec.eq_of_toNat_eq
  rw [callWord_number, disp30Of, field_number]
  omega

theorem branchWord_of_fields {cond : BitVec 4} {op2 : BitVec 3} (hop : opOf w = 0#2) (hop2 : op2Of w = op2)
    (hcond : (condOf w).toNat = cond.toNat) : branchWord (bit29Of w) cond op2 (imm22Of w) = w := by
  rw [branchWord, ← BitVec.eq_of_toNat_eq hcond, bits29_25, ← hop2, format2_fields w hop]

theorem format2_of_fields {op2 : BitVec 3} (hop : opOf w = 0#2) (hop2 : (op2Of w).toNat = op2.toNat) :
    format2 (rdOf w) op2 (imm22Of w) = w := by
  rw [← BitVec.eq_of_toNat_eq hop2, format2_fields w hop]

theorem format3_of_fields {op : BitVec 2} {op3 : BitVec 6} (hop : opOf w = op) (hop3 : (op3Of w).toNat = op3.toNat) :
    format3 op (rdOf w) op3 (rs1Of w) (low14Of w) = w := by
  rw [← hop, ← BitVec.eq_of_toNat_eq hop3, format3_fields]

theorem format3Word_of_fields {op : BitVec 2} {op3 : BitVec 6} (hop : opOf w = op) (hop3 : (op3Of w).toNat = op3.toNat) :
    format3Word op op3 (rdOf w) (rs1Of w) (operand2Of (low14Of w)) = w := by
  rw [format3Word, operand2Bits_of, format3_of_fields hop hop3]

theorem operateWord_of_fields {op3 : BitVec 6} {opf : BitVec 9} (hop : opOf w = 2#2) (hop3 : (op3Of w).toNat = op3.toNat)
    (hopf : (opfOf w).toNat = opf.toNat) : operateWord op3 opf (rdOf w) (rs1Of w) (rs2Of w) = w := by
  rw [operateWord, ← BitVec.eq_of_toNat_eq hopf, opf_rs2, format3_of_fields hop hop3]

theorem ticcWord_of_fields {cond : BitVec 4} (hop : opOf w = 2#2) (hop3 : (op3Of w).toNat = 0x3A)
    (hcond : (condOf w).toNat = cond.toNat) : ticcWord (bit29Of w) cond (rs1Of w) (operand2Of (low14Of w)) = w := by
  rw [ticcWord, ← BitVec.eq_of_toNat_eq hcond, bits29_25, operand2Bits_of, format3_of_fields (op3 := 0x3A#6) hop hop3]

/-! ## Encoding what the decoder reads, family by family -/

theorem encode_decodeBicc (hop : opOf w = 0#2) (hop2 : op2Of w = 2#3) : encode (decodeBicc w) = w := by
  unfold decodeBicc
  split
  case h_16 => exact branchWord_of_fields hop hop2 (by have := (condOf w).isLt; grind)
  all_goals exact branchWord_of_fields hop hop2 ‹_›

theorem encode_decodeFbfcc (hop : opOf w = 0#2) (hop2 : op2Of w = 6#3) : encode (decodeFbfcc w) = w := by
  unfold decodeFbfcc
  split
  case h_16 => exact branchWord_of_fields hop hop2 (by have := (condOf w).isLt; grind)
  all_goals exact branchWord_of_fields hop hop2 ‹_›

theorem encode_decodeCbccc (hop : opOf w = 0#2) (hop2 : op2Of w = 7#3) : encode (decodeCbccc w) = w := by
  unfold decodeCbccc
  split
  case h_16 => exact branchWord_of_fields hop hop2 (by have := (condOf w).isLt; grind)
  all_goals exact branchWord_of_fields hop hop2 ‹_›

theorem encode_decodeTicc (hop : opOf w = 2#2) (hop3 : (op3Of w).toNat = 0x3A) : encode (decodeTicc w) = w := by
  unfold decodeTicc
  split
  case h_16 => exact ticcWord_of_fields hop hop3 (by have := (condOf w).isLt; grind)
  all_goals exact ticcWord_of_fields hop hop3 ‹_›

end

/-- The instruction that a result of the decoder is, if it is one, has the word w. -/
def EncodesTo (w : Word) (x : Except Reject Instr) : Prop := ∀ i, x = .ok i → encode i = w

section
variable {w : Word} {i : Instr} {r : Reject}

theorem encodesTo_ok (h : encode i = w) : EncodesTo w (.ok i) := by rintro _ ⟨⟩; exact h

theorem encodesTo_error : EncodesTo w (.error r) := nofun

theorem encodesTo_decodeFormat2 (hop : opOf w = 0#2) : EncodesTo w (decodeFormat2 w) := by
  unfold decodeFormat2
  split
  case h_1 hop2 | h_3 hop2 => exact encodesTo_ok (format2_of_fields hop hop2)
  case h_2 hop2 => exact encodesTo_ok (encode_decodeBicc hop (BitVec.eq_of_toNat_eq hop2))
  case h_4 hop2 => exact encodesTo_ok (encode_decodeFbfcc hop (BitVec.eq_of_toNat_eq hop2))
  case h_5 hop2 => exact encodesTo_ok (encode_decodeCbccc hop (BitVec.eq_of_toNat_eq hop2))
  case h_6 => exact encodesTo_error

theorem encodesTo_decodeFpop1 (hop : opOf w = 2#2) (hop3 : (op3Of w).toNat = 0x34) : EncodesTo w (decodeFpop1 w) := by
  unfold decodeFpop1
  split
  case h_31 => exact encodesTo_error
  all_goals exact encodesTo_ok (operateWord_of_fields hop hop3 ‹_›)

theorem encodesTo_decodeFpop2 (hop : opOf w = 2#2) (hop3 : (op3Of w).toNat = 0x35) : EncodesTo w (decodeFpop2 w) := by
  unfold decodeFpop2
  split
  case h_7 => exact encodesTo_error
  all_goals exact encodesTo_ok (operateWord_of_fields hop hop3 ‹_›)

theorem encodesTo_decodeArith (hop : opOf w = 2#2) : EncodesTo w (decodeArith w) := by
  unfold decodeArith
  split
  -- RDY, RDPSR, RDWIM, RDTBR keep bits 13:0 as they are
  case h_29 hop3 | h_30 hop3 | h_31 hop3 | h_32 hop3 => exact encodesTo_ok (format3_of_fields hop hop3)
  case h_37 hop3 => exact encodesTo_decodeFpop1 hop hop3
  case h_38 hop3 => exact encodesTo_decodeFpop2 hop hop3
  -- CPop1, CPop2
  case h_39 hop3 | h_40 hop3 => exact encodesTo_ok (operateWord_of_fields hop hop3 rfl)
  case h_43 hop3 => exact encodesTo_ok (encode_decodeTicc hop hop3)
  case h_47 => exact encodesTo_error
  -- the rest have a second operand
  all_goals exact encodesTo_ok (format3Word_of_fields hop ‹_›)

theorem encodesTo_decodeMemory (hop : opOf w = 3#2) : EncodesTo w (decodeMemory w) := by
  unfold decodeMemory
  split
  case h_39 => exact encodesTo_error
  all_goals exact encodesTo_ok (format3Word_of_fields hop ‹_›)

/-- The four values of op. -/
theorem op_cases (op : BitVec 2) : op = 0#2 ∨ op = 1#2 ∨ op = 2#2 ∨ op = 3#2 := by
  revert op
  decide

end

/-- Settles O4: by the format, then by the arm of its table. -/
theorem encodeDecode : Obligations.EncodeDecode := by
  intro w
  change EncodesTo w (decode w)
  obtain hop | hop | hop | hop := op_cases (opOf w)
  · rw [decode_of_op_zero hop]
    exact encodesTo_decodeFormat2 hop
  · rw [decode_of_op_one hop]
    exact encodesTo_ok (callWord_of_fields hop)
  · rw [decode_of_op_two hop]
    exact encodesTo_decodeArith hop
  · rw [decode_of_op_three hop]
    exact encodesTo_decodeMemory hop

end Sys2Proof
end

section
/-! The holes of the opcode tables (`30_encoding.md` R151 to R155): the decoder rejects their words. -/

namespace Sys2Proof

/-- The fields are compared as numbers, which is how the tables' arms name them. -/
theorem toNat_mem_map {n : Nat} {x : BitVec n} {l : List (BitVec n)} : x.toNat ∈ l.map BitVec.toNat ↔ x ∈ l :=
  List.mem_map_of_injective BitVec.toNat_injective

section
variable {w : Word}

theorem decode_unassigned_op2 (hop : opOf w = 0#2) (hhole : op2Of w ∈ [1#3, 3#3, 5#3]) :
    decode w = .error (.unassignedOp2 (op2Of w)) := by
  rw [← toNat_mem_map] at hhole
  rw [decode_of_op_zero hop, decodeFormat2]
  split
  case h_6 => rfl
  all_goals exact absurd (‹(op2Of w).toNat = _› ▸ hhole) (by decide)

theorem decode_unassigned_op3_arith (hop : opOf w = 2#2)
    (hhole : op3Of w ∈ [0x09#6, 0x0A#6, 0x0B#6, 0x0D#6, 0x0E#6, 0x0F#6, 0x19#6, 0x1A#6, 0x1B#6, 0x1D#6, 0x1E#6, 0x1F#6,
      0x2C#6, 0x2D#6, 0x2E#6, 0x2F#6, 0x3E#6, 0x3F#6]) : decode w = .error (.unassignedOp3 (opOf w) (op3Of w)) := by
  rw [← toNat_mem_map] at hhole
  rw [decode_of_op_two hop, decodeArith]
  split
  case h_47 => rfl
  all_goals exact absurd (‹(op3Of w).toNat = _› ▸ hhole) (by decide)

theorem decode_unassigned_op3_memory (hop : opOf w = 3#2)
    (hhole : op3Of w ∈ [0x08#6, 0x0B#6, 0x0C#6, 0x0E#6, 0x18#6, 0x1B#6, 0x1C#6, 0x1E#6, 0x22#6, 0x28#6, 0x29#6, 0x2A#6,
      0x2B#6, 0x2C#6, 0x2D#6, 0x2E#6, 0x2F#6, 0x32#6, 0x38#6, 0x39#6, 0x3A#6, 0x3B#6, 0x3C#6, 0x3D#6, 0x3E#6, 0x3F#6]) :
    decode w = .error (.unassignedOp3 (opOf w) (op3Of w)) := by
  rw [← toNat_mem_map] at hhole
  rw [decode_of_op_three hop, decodeMemory]
  split
  case h_39 => rfl
  all_goals exact absurd (‹(op3Of w).toNat = _› ▸ hhole) (by decide)

theorem decode_unassigned_fpop1 (hop : opOf w = 2#2) (hop3 : op3Of w = 0x34#6)
    (hopf : opfOf w ∉ [0x001#9, 0x005#9, 0x009#9, 0x029#9, 0x02A#9, 0x02B#9, 0x041#9, 0x042#9, 0x043#9, 0x045#9, 0x046#9,
      0x047#9, 0x049#9, 0x04A#9, 0x04B#9, 0x04D#9, 0x04E#9, 0x04F#9, 0x0C4#9, 0x0C6#9, 0x0C7#9, 0x0C8#9, 0x0C9#9, 0x0CB#9,
      0x0CC#9, 0x0CD#9, 0x0CE#9, 0x0D1#9, 0x0D2#9, 0x0D3#9]) : decode w = .error (.unassignedOpf (op3Of w) (opfOf w)) := by
  have harith : decodeArith w = decodeFpop1 w := by rw [decodeArith, hop3]; rfl
  rw [← toNat_mem_map] at hopf
  rw [decode_of_op_two hop, harith, decodeFpop1]
  split
  case h_31 => rfl
  all_goals exact absurd (by decide) (‹(opfOf w).toNat = _› ▸ hopf)

theorem decode_unassigned_fpop2 (hop : opOf w = 2#2) (hop3 : op3Of w = 0x35#6)
    (hopf : opfOf w ∉ [0x051#9, 0x052#9, 0x053#9, 0x055#9, 0x056#9, 0x057#9]) :
    decode w = .error (.unassignedOpf (op3Of w) (opfOf w)) := by
  have harith : decodeArith w = decodeFpop2 w := by rw [decodeArith, hop3]; rfl
  rw [← toNat_mem_map] at hopf
  rw [decode_of_op_two hop, harith, decodeFpop2]
  split
  case h_7 => rfl
  all_goals exact absurd (by decide) (‹(opfOf w).toNat = _› ▸ hopf)

end

/-- A word an instruction encodes to decodes to it. -/
theorem decode_of_encode_eq {w : Word} {i : Instr} (h : encode i = w) : decode w = .ok i := h ▸ decodeEncode i

/-- Settles O5: each word is the encoder's word of its instruction. -/
theorem specWordsDecode : Obligations.SpecWordsDecode := by
  refine ⟨?_, ?_, ?_, ?_, ?_, ?_, ?_, ?_, ?_, ?_⟩ <;> exact decode_of_encode_eq rfl

end Sys2Proof
end

section
/-! What a step does with a word that is no instruction, and with a refused fetch (`30_encoding.md` R170, R172,
`20_memory.md` R97); the second operand of an instruction (R141). -/

namespace Sys2Proof.Machine

open Sys2Proof

section
variable {s : State} {w : Word} {r : Reject} {k : Result}

/-! ## The step of a word that is no instruction -/

/-- No effect speaks of the words fetched ahead, which are all that `aged` changes. -/
theorem raise_aged_effect (s : State) (tr : Trap) : completes (raise s.aged tr) (trapsTo s tr.tt) := raise_effect s.aged tr

theorem step_of_boundary (hreset : s.input.reset = false) (herror : s.errorMode = false)
    (hirq : s.sampled.interruptAccepted s.input.irl = false) : step s = executeWord exec s.sampled.aged s.fetch := by
  simp only [step, stepWith, hreset, herror, hirq, Bool.false_eq_true, if_false]
  rfl

theorem executeWord_of_rejected {run : Instr → State → Result} (hdecode : decode w = .error r) :
    executeWord run s (some w) = undecoded r w s := by rw [executeWord, hdecode]

theorem fpEnabled_not (h : s.efView = false ∨ s.platform.fpuPresent = false) : fpEnabled s k = raise s .fpDisabled := by
  rw [fpEnabled, if_neg]
  rcases h with h | h <;> simp [h]

theorem fpUnassigned_of_ready (h : fpuReady s) : completes (fpUnassigned s w) (fpopFails s w 3 s.fsr.cexc) := by
  obtain ⟨hef, hfpu, hmode⟩ := h
  rw [fpUnassigned, fpReady_of hef hfpu hmode]
  exact ⟨_, rfl, fpFail_effect s w 3 s.fsr.cexc⟩

theorem fpUnassigned_of_disabled (h : s.efView = false ∨ s.platform.fpuPresent = false) :
    completes (fpUnassigned s w) (trapsTo s 0x04) := by
  rw [fpUnassigned, fpReady, fpEnabled_not h]
  exact raise_effect s .fpDisabled

end

/-- Settles O6: a step runs the fetched word, the decoder rejects it, and the reject says the trap. -/
theorem unassignedWordsTrap : Obligations.UnassignedWordsTrap := by
  refine ⟨fun s w hreset herror hirq hfetch => ?_, fun s hreset herror hirq hfetch => ?_⟩
  · have rejected {r : Reject} (hdecode : decode w = .error r) : step s = undecoded r w s.sampled.aged := by
      rw [step_of_boundary hreset herror hirq, hfetch, executeWord_of_rejected hdecode]
    have illegal : completes (raise s.sampled.aged .illegalInstruction) (trapsTo s.sampled 0x02) := raise_aged_effect _ _
    refine ⟨fun hop hop2 => ?op2, fun hop hop3 => ?arith, fun hop hop3 => ?memory, fun hop hopf => ?opf⟩
    case op2 => rwa [rejected (decode_unassigned_op2 hop hop2)]
    case arith => rwa [rejected (decode_unassigned_op3_arith hop hop3)]
    case memory => rwa [rejected (decode_unassigned_op3_memory hop hop3)]
    case opf =>
      have hdecode : decode w = .error (.unassignedOpf (op3Of w) (opfOf w)) := by
        obtain ⟨hop3, hopf⟩ | ⟨hop3, hopf⟩ := hopf
        · exact decode_unassigned_fpop1 hop hop3 hopf
        · exact decode_unassigned_fpop2 hop hop3 hopf
      rw [rejected hdecode]
      exact ⟨fun hready => fpUnassigned_of_ready (s := s.sampled.aged) hready,
        fun hdisabled => fpUnassigned_of_disabled (s := s.sampled.aged) hdisabled⟩
  · rw [step_of_boundary hreset herror hirq, hfetch]
    exact raise_aged_effect s.sampled .instructionAccessException

/-! ## The second operand (R141, R33) -/

/-- A sign-extended constant has the constant's value. -/
theorem operand2_imm_toInt (s : State) (simm13 : BitVec 13) : (s.operand2 (.imm simm13)).toInt = simm13.toInt :=
  BitVec.toInt_signExtend_of_le (by decide)

/-- Settles O9. -/
theorem secondOperand : Obligations.SecondOperand := by
  intro s
  refine ⟨fun asi rs2 => rfl, operand2_imm_toInt s, regIn_zero s, fun hpsr => ?_, fun r => rfl⟩
  obtain ⟨hcwp, hicc, hs, -, het, hef, hec, -⟩ := psrViews_of hpsr
  exact ⟨hcwp, hicc, hs, het, hef, hec⟩

end Sys2Proof.Machine
end

section
/-! What an integer load, store or atomic instruction does once its access is allowed (`40_load_store_integer.md` R210 to
R238): the plain and the alternate-space forms differ in the access only. -/

namespace Sys2Proof.Machine

open Sys2Proof

section
variable {s u : State} {m : Memory} {st n v : Nat} {a ea : Word} {rd rs1 rs2 : RegNum} {src2 : Operand2}
  {asi : BitVec 8} {kind : AccessKind} {k : Nat → Word → Result} {P : State → Prop}

/-! ## The access -/

theorem completes_dataAccess (h : dataAllowed s (s.reg rs1 + s.operand2 src2) n kind)
    (hk : completes (k s.dataStorage (s.reg rs1 + s.operand2 src2)) P) : completes (dataAccess s rs1 src2 n kind k) P := by
  rw [dataAccess_of h]
  exact hk

theorem completes_altAccess (hs : s.supervisor = true) (h : alternateAllowed s asi (s.reg rs1 + s.reg rs2) n kind st)
    (hk : completes (k st (s.reg rs1 + s.reg rs2)) P) : completes (altAccess s rs1 (.reg asi rs2) id n kind k) P := by
  rw [altAccess_of hs h]
  exact hk

theorem completes_altAccess_pair (hs : s.supervisor = true) (hrd : rd.toNat % 2 = 0)
    (h : alternateAllowed s asi (s.reg rs1 + s.reg rs2) n kind st) (hk : completes (k st (s.reg rs1 + s.reg rs2)) P) :
    completes (altAccess s rs1 (.reg asi rs2) (needPair rd) n kind k) P := by
  rw [altAccess_of hs h]
  exact completes_needPair hrd hk

/-! ## Loads -/

theorem byteAt_toNat : (m.byteAt st a).toNat = bytesAt m st a 1 := by simp [bytesAt]

theorem half_toNat : (m.half st a).toNat = bytesAt m st a 2 := by
  rw [half_eq, BitVec.toNat_ofNat]
  exact Nat.mod_eq_of_lt (bytesAt_lt m st a 2)

theorem word_toNat : (m.word st a).toNat = bytesAt m st a 4 := by
  rw [word_eq, BitVec.toNat_ofNat]
  exact Nat.mod_eq_of_lt (bytesAt_lt m st a 4)

/-- Extension by sign keeps the two's-complement integer. -/
theorem signExtend_eq_signedBytes (b : BitVec (8 * n)) :
    b.signExtend 32 = BitVec.ofInt 32 (signedBytes n b.toNat) := by
  have hpow : (256 : Nat) ^ n = 2 ^ (8 * n) := by rw [pow_mul]; rfl
  have hvalue : b.toInt = signedBytes n b.toNat := by
    rw [BitVec.toInt_eq_toNat_cond, signedBytes, ← hpow, Nat.cast_pow]
    rfl
  rw [BitVec.signExtend, hvalue]

theorem finish_signedByte : completes (finish s rd ((s.mem.byteAt st ea).signExtend 32))
    (aluEffect s rd (BitVec.ofInt 32 (signedBytes 1 (bytesAt s.mem st ea 1))) s.psr.icc) := by
  rw [← byteAt_toNat, ← signExtend_eq_signedBytes]
  exact finish_effect s rd _

theorem finish_signedHalf : completes (finish s rd ((s.mem.half st ea).signExtend 32))
    (aluEffect s rd (BitVec.ofInt 32 (signedBytes 2 (bytesAt s.mem st ea 2))) s.psr.icc) := by
  rw [← half_toNat, ← signExtend_eq_signedBytes]
  exact finish_effect s rd _

theorem finish_byte : completes (finish s rd ((s.mem.byteAt st ea).setWidth 32))
    (aluEffect s rd (BitVec.ofNat 32 (bytesAt s.mem st ea 1)) s.psr.icc) := by
  rw [← byteAt_toNat, BitVec.ofNat_toNat]
  exact finish_effect s rd _

theorem finish_half : completes (finish s rd ((s.mem.half st ea).setWidth 32))
    (aluEffect s rd (BitVec.ofNat 32 (bytesAt s.mem st ea 2)) s.psr.icc) := by
  rw [← half_toNat, BitVec.ofNat_toNat]
  exact finish_effect s rd _

theorem finish_word : completes (finish s rd (s.mem.word st ea))
    (aluEffect s rd (BitVec.ofNat 32 (bytesAt s.mem st ea 4)) s.psr.icc) := by
  rw [← word_eq]
  exact finish_effect s rd _

/-- A pair is written with the more significant word in its even register (R203). -/
theorem setPair_writesPair (hrd : rd.toNat % 2 = 0) (hi lo : Word) :
    writesPair s (s.setPair rd (hi ++ lo)) s.cwpView rd hi lo := by
  have hnumber : (pairOf rd).toNat = (rd.toNat + 1) % 32 := BitVec.toNat_add rd 1
  have hodd : pairOf rd ≠ 0 := by rw [regNum_ne_zero]; omega
  have hhi : (hi ++ lo).extractLsb' 32 32 = hi := BitVec.extractLsb'_append_eq_left
  have hlo : (hi ++ lo).extractLsb' 0 32 = lo := BitVec.extractLsb'_append_eq_right
  intro w r
  rw [State.setPair, hhi, hlo, regIn_setReg, regIn_setReg, cwpView_setReg]
  exact if_congr (and_iff_right hodd) rfl rfl

/-- LDD and LDDA load the word at EA in the even register and the word at EA + 4 in the odd one (R101, R215). -/
theorem next_setPair_double (hrd : rd.toNat % 2 = 0) :
    completes (.next (s.setPair rd (s.mem.double st ea)).advance) fun t =>
      writesPair s t s.cwpView rd (BitVec.ofNat 32 (bytesAt s.mem st ea 4)) (BitVec.ofNat 32 (bytesAt s.mem st (ea + 4) 4)) ∧
      t.psr = s.psr ∧ keepsRest s t ∧ advanced s t := by
  rw [← word_eq, ← word_eq]
  refine ⟨_, rfl, fun w r => ?_, by simp, ?_, by simp [advanced]⟩
  · rw [regIn_congr (advance_g _) (advance_w _)]
    exact setPair_writesPair hrd _ _ w r
  · exact ⟨by simp [keepsControl], by simp [keepsFpu], by simp, keepsMemory_of_eq (by simp), by simp [keepsOutside]⟩

/-! ## Stores -/

/-- u is s but for memory and the words fetched ahead. -/
def ChangesMemoryOnly (s u : State) : Prop := ∃ mem stale, u = { s with mem := mem, stale := stale }

theorem storeByte_changesMemoryOnly (b : Byte) : ChangesMemoryOnly s (s.storeByte st a b) := ⟨_, _, rfl⟩

theorem storeHalf_changesMemoryOnly (h : Halfword) : ChangesMemoryOnly s (s.storeHalf st a h) := ⟨_, _, rfl⟩

theorem storeWord_changesMemoryOnly (x : Word) : ChangesMemoryOnly s (s.storeWord st a x) := ⟨_, _, rfl⟩

theorem ChangesMemoryOnly.trans {t : State} (hu : ChangesMemoryOnly s u) (ht : ChangesMemoryOnly u t) :
    ChangesMemoryOnly s t := by
  obtain ⟨mem, stale, rfl⟩ := hu
  obtain ⟨mem', stale', rfl⟩ := ht
  exact ⟨mem', stale', rfl⟩

theorem storeDouble_changesMemoryOnly (d : Doubleword) : ChangesMemoryOnly s (s.storeDouble st a d) :=
  (storeWord_changesMemoryOnly _).trans (storeWord_changesMemoryOnly _)

/-- A store of n bytes takes the low n bytes of the number. -/
theorem storesBytes_of_mod (h : storesBytes s u st a n (v % 256 ^ n)) : storesBytes s u st a n v := by
  refine ⟨fun j hj => ?_, h.2⟩
  have hsplit : 256 ^ n = 256 ^ (n - 1 - j) * 256 ^ (j + 1) := by rw [← pow_add]; congr 1; omega
  rw [h.1 j hj, hsplit, Nat.mod_mul_right_div_self, Nat.mod_mod_of_dvd _ (dvd_pow_self 256 (by omega))]

/-- A store writes its bytes, and everything but memory is as `advance` leaves it. -/
theorem next_stored (hu : ChangesMemoryOnly s u) (hbytes : storesBytes s u st a n v) :
    completes (.next u.advance) fun t => storesBytes s t st a n v ∧ storeFrame s t := by
  refine ⟨_, rfl, storesBytes_congr hbytes (advance_mem u), ?_⟩
  obtain ⟨mem, stale, rfl⟩ := hu
  exact ⟨fun _ _ => rfl, rfl, ⟨rfl, rfl, rfl⟩, ⟨rfl, rfl, rfl, rfl⟩, rfl, ⟨rfl, rfl, rfl⟩, rfl, rfl⟩

/-- The effect of an atomic instruction (R235, R237): it writes n bytes and r[rd], and nothing else but PC and nPC. -/
def atomicEffect (s : State) (st : Nat) (a : Word) (n v : Nat) (rd : RegNum) (r : Word) (t : State) : Prop :=
  storesBytes s t st a n v ∧ writesReg s t s.cwpView rd r ∧ t.psr = s.psr ∧ keepsControl s t ∧ keepsFpu s t ∧
  t.cp = s.cp ∧ keepsOutside s t ∧ advanced s t

theorem finish_stored {r : Word} (hu : ChangesMemoryOnly s u) (hbytes : storesBytes s u st a n v) :
    completes (finish u rd r) (atomicEffect s st a n v rd r) := by
  have hmem : (u.setReg rd r).advance.mem = u.mem := by simp
  obtain ⟨t, ht, hreg, hpsr, ⟨hcontrol, hfpu, hcp, -, houtside⟩, hpc⟩ := finish_effect u rd r
  obtain rfl : (u.setReg rd r).advance = t := by simpa [finish] using ht
  refine ⟨_, ht, storesBytes_congr hbytes hmem, ?_⟩
  obtain ⟨mem, stale, rfl⟩ := hu
  exact ⟨hreg, hpsr, hcontrol, hfpu, hcp, houtside, hpc⟩

theorem next_storeByte (hwf : Memory.wf s.mem = true) (x : Word) :
    completes (.next (s.storeByte st ea (x.setWidth 8)).advance) fun t =>
      storesBytes s t st ea 1 x.toNat ∧ storeFrame s t :=
  next_stored (storeByte_changesMemoryOnly _) <| storesBytes_of_mod <| by
    have hbytes := storeByte_bytes s st ea (x.setWidth 8) hwf
    rwa [BitVec.toNat_setWidth] at hbytes

theorem next_storeHalf (hwf : Memory.wf s.mem = true) (x : Word) :
    completes (.next (s.storeHalf st ea (x.setWidth 16)).advance) fun t =>
      storesBytes s t st ea 2 x.toNat ∧ storeFrame s t :=
  next_stored (storeHalf_changesMemoryOnly _) <| storesBytes_of_mod <| by
    have hbytes := storeHalf_bytes s st ea (x.setWidth 16) hwf
    rwa [BitVec.toNat_setWidth] at hbytes

theorem next_storeWord (hwf : Memory.wf s.mem = true) (x : Word) :
    completes (.next (s.storeWord st ea x).advance) fun t => storesBytes s t st ea 4 x.toNat ∧ storeFrame s t :=
  next_stored (storeWord_changesMemoryOnly x) (storeWord_bytes s st ea x hwf)

theorem next_storePair (hwf : Memory.wf s.mem = true) :
    completes (.next (s.storeDouble st ea (s.pair rd)).advance) fun t =>
      storesBytes s t st ea 8 ((s.reg rd).toNat * 2 ^ 32 + (s.reg (rd + 1)).toNat) ∧ storeFrame s t :=
  next_stored (storeDouble_changesMemoryOnly _) <| by
    rw [← toNat_append_add]
    exact storeDouble_bytes s st ea (s.pair rd) hwf

/-! ## LDSTUB and SWAP -/

theorem finish_loadStoreByte (hwf : Memory.wf s.mem = true) :
    completes (finish (s.storeByte st ea 0xFF#8) rd ((s.mem.byteAt st ea).setWidth 32))
      (atomicEffect s st ea 1 0xFF rd (BitVec.ofNat 32 (bytesAt s.mem st ea 1))) := by
  rw [← byteAt_toNat, BitVec.ofNat_toNat]
  exact finish_stored (storeByte_changesMemoryOnly _) (storeByte_bytes s st ea 0xFF#8 hwf)

theorem finish_swapWord (hwf : Memory.wf s.mem = true) (x : Word) :
    completes (finish (s.storeWord st ea x) rd (s.mem.word st ea))
      (atomicEffect s st ea 4 x.toNat rd (BitVec.ofNat 32 (bytesAt s.mem st ea 4))) := by
  rw [← word_eq]
  exact finish_stored (storeWord_changesMemoryOnly x) (storeWord_bytes s st ea x hwf)

end

/-! ## The instructions -/

/-- Settles O20: an allowed access, then the load. -/
theorem integerLoads : Obligations.IntegerLoads := by
  intro s rd rs1 src2
  dsimp only [exec]
  refine ⟨fun h => ?ldsb, fun h => ?ldsh, fun h => ?ldub, fun h => ?lduh, fun h => ?ld, fun hrd h => ?ldd⟩
  case ldsb => exact completes_dataAccess h finish_signedByte
  case ldsh => exact completes_dataAccess h finish_signedHalf
  case ldub => exact completes_dataAccess h finish_byte
  case lduh => exact completes_dataAccess h finish_half
  case ld => exact completes_dataAccess h finish_word
  case ldd => exact completes_needPair hrd (completes_dataAccess h (next_setPair_double hrd))

/-- Settles O21: an allowed access, then the store or the exchange. -/
theorem integerStoresAndAtomics : Obligations.IntegerStoresAndAtomics := by
  unfold Obligations.IntegerStoresAndAtomics
  dsimp only [exec]
  refine ⟨fun s rd rs1 src2 hwf => ?stores, fun s rd rs1 src2 hwf => ?atomics⟩
  case stores =>
    refine ⟨fun h => ?stb, fun h => ?sth, fun h => ?st, fun hrd h => ?std⟩
    case stb => exact completes_dataAccess h (next_storeByte hwf _)
    case sth => exact completes_dataAccess h (next_storeHalf hwf _)
    case st => exact completes_dataAccess h (next_storeWord hwf _)
    case std => exact completes_needPair hrd (completes_dataAccess h (next_storePair hwf))
  case atomics =>
    exact ⟨fun h => completes_dataAccess h (finish_loadStoreByte hwf),
      fun h => completes_dataAccess h (finish_swapWord hwf _)⟩

/-- Settles O22: the same loads, stores and exchanges, in the storage the asi reaches. -/
theorem alternateSpaceAccesses : Obligations.AlternateSpaceAccesses := by
  unfold Obligations.AlternateSpaceAccesses
  dsimp only [exec]
  refine ⟨fun s rd rs1 rs2 asi st hs => ?loads, fun s rd rs1 rs2 asi st hs hwf => ?stores⟩
  case loads =>
    refine ⟨fun h => ?ldsba, fun h => ?ldsha, fun h => ?lduba, fun h => ?lduha, fun h => ?lda, fun hrd h => ?ldda⟩
    case ldsba => exact completes_altAccess hs h finish_signedByte
    case ldsha => exact completes_altAccess hs h finish_signedHalf
    case lduba => exact completes_altAccess hs h finish_byte
    case lduha => exact completes_altAccess hs h finish_half
    case lda => exact completes_altAccess hs h finish_word
    case ldda => exact completes_altAccess_pair hs hrd h (next_setPair_double hrd)
  case stores =>
    refine ⟨fun h => ?stba, fun h => ?stha, fun h => ?sta, fun hrd h => ?stda, fun h => ?ldstuba, fun h => ?swapa⟩
    case stba => exact completes_altAccess hs h (next_storeByte hwf _)
    case stha => exact completes_altAccess hs h (next_storeHalf hwf _)
    case sta => exact completes_altAccess hs h (next_storeWord hwf _)
    case stda => exact completes_altAccess_pair hs hrd h (next_storePair hwf)
    case ldstuba => exact completes_altAccess hs h (finish_loadStoreByte hwf)
    case swapa => exact completes_altAccess hs h (finish_swapWord hwf _)

end Sys2Proof.Machine
end

section
/-! The checks of an alternate-space instruction (`40_load_store_integer.md` R202), in their order: i, S, the register
pair, alignment, MemFault, the map of the asis. -/

namespace Sys2Proof.Machine

open Sys2Proof

section
variable {s : State} {a : Word} {rs1 rs2 : RegNum} {asi : BitVec 8} {n : Nat} {kind : AccessKind}
  {pair : Result → Result} {k : Nat → Word → Result}

theorem access_unmapped {f : Nat → Result} (hfault : s.platform.memFault asi a n kind = false)
    (hmap : s.platform.storageOf asi = none) : access s asi a n kind f = .fault (.unmappedSpace asi) := by
  simp [access, hfault, hmap]

theorem altAccess_imm (simm13 : BitVec 13) :
    altAccess s rs1 (.imm simm13) pair n kind k = raise s .illegalInstruction := rfl

theorem altAccess_user (hs : s.supervisor = false) :
    altAccess s rs1 (.reg asi rs2) pair n kind k = raise s .privilegedInstruction := by
  simp [altAccess, altCheck, privileged, hs]

/-- In supervisor mode what is left is the register pair, alignment and the access. -/
theorem altAccess_supervisor (hs : s.supervisor = true) :
    altAccess s rs1 (.reg asi rs2) pair n kind k =
      pair (needAligned s (s.reg rs1 + s.reg rs2) n
        (access s asi (s.reg rs1 + s.reg rs2) n kind fun storage => k storage (s.reg rs1 + s.reg rs2))) := by
  simp [altAccess, altCheck, privileged, hs]

end

/-- What the checks before and after alignment make of an alternate-space access with pair check `pair`, where
`pairOk` is what passes that check. -/
theorem altAccess_checks (s : State) (rs1 rs2 : RegNum) (asi : BitVec 8) (simm13 : BitVec 13) {pairOk : Prop}
    {pair : Result → Result} (hpair : pairOk → ∀ x, pair x = x) (n : Nat) (kind : AccessKind) (k : Nat → Word → Result) :
    completes (altAccess s rs1 (.imm simm13) pair n kind k) (trapsTo s 0x02) ∧
    (s.supervisor = false → completes (altAccess s rs1 (.reg asi rs2) pair n kind k) (trapsTo s 0x03)) ∧
    (s.supervisor = true → pairOk → (s.reg rs1 + s.reg rs2).toNat % n = 0 →
      (s.platform.memFault asi (s.reg rs1 + s.reg rs2) n kind = true →
        completes (altAccess s rs1 (.reg asi rs2) pair n kind k) (trapsTo s 0x09)) ∧
      (s.platform.memFault asi (s.reg rs1 + s.reg rs2) n kind = false → s.platform.storageOf asi = none →
        altAccess s rs1 (.reg asi rs2) pair n kind k = .fault (.unmappedSpace asi))) := by
  refine ⟨?illegal, fun hs => ?privileged, fun hs hok haligned => ⟨fun hfault => ?refused, fun hfault hmap => ?unmapped⟩⟩
  case illegal =>
    rw [altAccess_imm]
    exact raise_effect s .illegalInstruction
  case privileged =>
    rw [altAccess_user hs]
    exact raise_effect s .privilegedInstruction
  case refused =>
    rw [altAccess_supervisor hs, hpair hok, needAligned_of haligned]
    exact completes_access_refused hfault
  case unmapped => rw [altAccess_supervisor hs, hpair hok, needAligned_of haligned, access_unmapped hfault hmap]

/-- A misaligned alternate-space access traps after the pair check. -/
theorem altAccess_misaligned {s : State} {rs1 rs2 : RegNum} {asi : BitVec 8} {pairOk : Prop} {pair : Result → Result}
    (hpair : pairOk → ∀ x, pair x = x) {n : Nat} {kind : AccessKind} {k : Nat → Word → Result}
    (hs : s.supervisor = true) (hok : pairOk) (hmisaligned : (s.reg rs1 + s.reg rs2).toNat % n ≠ 0) :
    completes (altAccess s rs1 (.reg asi rs2) pair n kind k) (trapsTo s 0x07) := by
  rw [altAccess_supervisor hs, hpair hok]
  exact completes_needAligned_misaligned hmisaligned

/-- An access that names no pair passes the pair check. -/
theorem noPair_passes (pairOk : Prop) : pairOk → ∀ x : Result, id x = x := fun _ _ => rfl

/-- A doubleword access with rd even passes the pair check; 8 is the access size. -/
theorem needPair_passes (rd : RegNum) : (8 = 8 → rd.toNat % 2 = 0) → ∀ x, needPair rd x = x := fun h _ => needPair_of (h rfl)

/-- Settles O24: each of the twelve is one access with its size, kind and pair check. -/
theorem alternateChecks : Obligations.AlternateChecks := by
  intro s rd rs1 rs2 asi simm13
  dsimp only [exec]
  refine ⟨?ldsba, ?ldsha, ?lduba, ?lduha, ?lda, ?ldda, ?stba, ?stha, ?sta, ?stda, ?ldstuba, ?swapa,
    ?misalignedLdsha, ?misalignedLduha, ?misalignedLda, ?misalignedLdda, ?misalignedStha, ?misalignedSta, ?misalignedStda,
    ?misalignedSwapa⟩
  case ldda | stda => exact altAccess_checks s rs1 rs2 asi simm13 (needPair_passes rd) 8 _ _
  case misalignedLdda | misalignedStda => exact altAccess_misaligned (needPair_passes rd)
  case misalignedLdsha | misalignedLduha | misalignedLda | misalignedStha | misalignedSta | misalignedSwapa =>
    exact altAccess_misaligned (noPair_passes _)
  case ldsba | ldsha | lduba | lduha | lda | stba | stha | sta | ldstuba | swapa =>
    exact altAccess_checks s rs1 rs2 asi simm13 (noPair_passes _) _ _ _

end Sys2Proof.Machine
end

section
/-! Register operands that name no pair or triple (`40_load_store_integer.md` R203, `45_fpop_cpop.md` R431): the
instruction is refused by name. -/

namespace Sys2Proof.Machine

open Sys2Proof

/-- The result is a refusal of a register that names no pair or triple. -/
def RefusesRegister (x : Result) : Prop := ∃ r, x = .refused (.oddRegister r)

section
variable {s t : State} {k : Result} {r rd rs1 rs2 : RegNum} {asi : BitVec 8} {n : Nat} {kind : AccessKind} {w : Word}

/-! ## The checks -/

theorem fpEnabled_of (hef : s.efView = true) (hfpu : s.platform.fpuPresent = true) : fpEnabled s k = k := by
  simp [fpEnabled, hef, hfpu]

theorem cpEnabled_of (hec : s.ecView = true) (hcp : s.platform.cpPresent = true) : cpEnabled s t k = k := by
  simp [cpEnabled, hec, hcp]

theorem fpExtended_of (h : s.platform.extendedImplemented = true) : fpExtended s w k = k := by simp [fpExtended, h]

/-- A pair check refuses its register, or passes an even one on. -/
theorem needPair_refuses (hk : evenReg r = true → RefusesRegister k) : RefusesRegister (needPair r k) := by
  unfold needPair
  split
  case isTrue heven => exact hk heven
  case isFalse => exact ⟨r, rfl⟩

/-- A triple check refuses its register, or passes on one that names an extended operand. -/
theorem needTriple_refuses (hk : extendedReg r = true → RefusesRegister k) : RefusesRegister (needTriple r k) := by
  unfold needTriple
  split
  case isTrue htriple => exact hk htriple
  case isFalse => exact ⟨r, rfl⟩

theorem fpReady_refuses (hready : fpuReady s) (hk : RefusesRegister k) : RefusesRegister (fpReady s k) := by
  obtain ⟨hef, hfpu, hmode⟩ := hready
  rwa [fpReady_of hef hfpu hmode]

theorem fpEnabled_refuses (hready : fpuReady s) (hk : RefusesRegister k) : RefusesRegister (fpEnabled s k) := by
  obtain ⟨hef, hfpu, -⟩ := hready
  rwa [fpEnabled_of hef hfpu]

/-- The checks of an extended FPop before those of its registers. -/
theorem fpExtended_refuses {i : Instr} (hready : fpuReady s) (hi : isExtended i = true)
    (hx : s.platform.extendedImplemented = true ∨ isExtended i = false) (hk : RefusesRegister k) :
    RefusesRegister (fpReady s (fpExtended s w k)) := by
  refine fpReady_refuses hready ?_
  rwa [fpExtended_of (hx.resolve_right (by simp [hi]))]

theorem altAccess_pair_odd {f : Nat → Word → Result} (hs : s.supervisor = true) (hodd : rd.toNat % 2 = 1) :
    altAccess s rs1 (.reg asi rs2) (needPair rd) n kind f = .refused (.oddRegister rd) := by
  rw [altAccess_supervisor hs, needPair_not hodd]

end

/-! ## The instructions -/

/-- A floating-point instruction that fails the well-formedness check is refused by the first of its register checks
that fails. -/
theorem illFormed_fp_refuses {i : Instr} {s : State} (hwf : i.wellFormed = false) (hfp : isFloatingPoint i = true)
    (hready : fpuReady s) (hx : s.platform.extendedImplemented = true ∨ isExtended i = false) :
    RefusesRegister (exec i s) := by
  cases i <;> dsimp only [exec]
  case lddf | stdf =>
    exact fpEnabled_refuses hready <| needPair_refuses fun hrd => absurd hwf (by simp [Instr.wellFormed, hrd])
  case faddd | fsubd | fmuld | fdivd =>
    exact fpReady_refuses hready <| needPair_refuses fun h1 => needPair_refuses fun h2 => needPair_refuses fun hrd =>
      absurd hwf (by simp [Instr.wellFormed, h1, h2, hrd])
  case fsqrtd | fcmpd | fcmped =>
    exact fpReady_refuses hready <| needPair_refuses fun h1 => needPair_refuses fun h2 =>
      absurd hwf (by simp [Instr.wellFormed, h1, h2])
  case fstod | fitod | fdtos | fdtoi =>
    exact fpReady_refuses hready <| needPair_refuses fun h1 => absurd hwf (by simp [Instr.wellFormed, h1])
  case faddx | fsubx | fmulx | fdivx =>
    exact fpExtended_refuses hready rfl hx <| needTriple_refuses fun h1 => needTriple_refuses fun h2 =>
      needTriple_refuses fun hrd => absurd hwf (by simp [Instr.wellFormed, h1, h2, hrd])
  case fsqrtx | fcmpx | fcmpex =>
    exact fpExtended_refuses hready rfl hx <| needTriple_refuses fun h1 => needTriple_refuses fun h2 =>
      absurd hwf (by simp [Instr.wellFormed, h1, h2])
  case fitox | fstox | fxtoi | fxtos =>
    exact fpExtended_refuses hready rfl hx <| needTriple_refuses fun h1 => absurd hwf (by simp [Instr.wellFormed, h1])
  case fdtox =>
    exact fpExtended_refuses hready rfl hx <| needPair_refuses fun h2 => needTriple_refuses fun hrd =>
      absurd hwf (by simp [Instr.wellFormed, h2, hrd])
  case fxtod =>
    exact fpExtended_refuses hready rfl hx <| needTriple_refuses fun h2 => needPair_refuses fun hrd =>
      absurd hwf (by simp [Instr.wellFormed, h2, hrd])
  -- pairs outside the FPU
  case ldd | std | ldda | stda | lddc | stdc => exact absurd hfp Bool.false_ne_true
  -- the rest name neither a pair nor a triple
  all_goals exact absurd hwf.symm Bool.false_ne_true

/-- Settles O25: the checks before the pair check pass, and it refuses rd; a floating-point instruction by the register
that makes it ill-formed. -/
theorem oddPairStops : Obligations.OddPairStops := by
  refine ⟨fun s rd rs1 rs2 asi src2 hodd => ?_, fun i s hwf hfp hready hx => illFormed_fp_refuses hwf hfp hready hx⟩
  dsimp only [exec]
  refine ⟨needPair_not hodd, needPair_not hodd, fun hs => ?alternate, fun hef hfpu => ?fp, fun hec hcp => ?cp⟩
  case alternate => exact ⟨altAccess_pair_odd hs hodd, altAccess_pair_odd hs hodd⟩
  case fp => exact ⟨(fpEnabled_of hef hfpu).trans (needPair_not hodd), (fpEnabled_of hef hfpu).trans (needPair_not hodd)⟩
  case cp => exact ⟨(cpEnabled_of hec hcp).trans (needPair_not hodd), (cpEnabled_of hec hcp).trans (needPair_not hodd)⟩

end Sys2Proof.Machine
end

section
/-! What a floating-point or coprocessor load or store does once its unit is enabled and its access allowed
(`41_load_store_fp_cp.md` R261 to R267, R274 to R277). -/

namespace Sys2Proof.Machine

open Sys2Proof

section
variable {s u : State} {st n v : Nat} {a ea : Word} {rd rs1 : RegNum} {src2 : Operand2}
  {kind : AccessKind} {k : Nat → Word → Result} {P Q : State → Prop} {r : Result}

theorem completes_mono (h : completes r P) (hPQ : ∀ t, P t → Q t) : completes r Q := by
  obtain ⟨t, ht, hP⟩ := h
  exact ⟨t, ht, hPQ t hP⟩

/-! ## The access -/

theorem completes_access (hfault : s.platform.memFault s.dataAsi a n kind = false) {f : Nat → Result}
    (hk : completes (f s.dataStorage) P) : completes (access s s.dataAsi a n kind f) P := by
  rwa [access_of hfault (storageOf_dataAsi s)]

theorem completes_fpLoad (hm : s.fpuMode = .execute) (h : dataAllowed s (s.sum rs1 src2) n .read)
    (hk : completes (k s.dataStorage (s.sum rs1 src2)) P) : completes (fpAccess s rs1 src2 n .read k) P := by
  obtain ⟨haligned, hfault⟩ := h
  rw [fpAccess, needAligned_of haligned, fpNoPending_of (by simp [hm]), if_pos rfl, fpNoSequence_of (by simp [hm])]
  exact completes_access hfault hk

/-- A store passes in exception mode too (R268). -/
theorem completes_fpStore (hm : s.fpuMode ≠ .exceptionPending) (h : dataAllowed s (s.sum rs1 src2) n .write)
    (hk : completes (k s.dataStorage (s.sum rs1 src2)) P) : completes (fpAccess s rs1 src2 n .write k) P := by
  obtain ⟨haligned, hfault⟩ := h
  rw [fpAccess, needAligned_of haligned, fpNoPending_of hm, if_neg (by decide)]
  exact completes_access hfault hk

theorem completes_cpStore (he : s.cp.exceptionPending = false) (h : dataAllowed s (s.sum rs1 src2) n .write)
    (hk : completes (k s.dataStorage (s.sum rs1 src2)) P) : completes (cpStore s rs1 src2 n k) P := by
  obtain ⟨haligned, hfault⟩ := h
  rw [cpStore, cpAccess, needAligned_of haligned, cpNoException_of he]
  exact completes_access hfault hk

/-! ## Floating-point loads -/

theorem double_eq (m : Memory) (st : Nat) (a : Word) : m.double st a = BitVec.ofNat 64 (bytesAt m st a 8) := by
  apply BitVec.eq_of_toNat_eq
  rw [Memory.double, toNat_append_add, word_toNat, word_toNat, ← bytesAt_eight, BitVec.toNat_ofNat]
  exact (Nat.mod_eq_of_lt (bytesAt_lt m st a 8)).symm

/-- A field of the word of a number. -/
theorem extractLsb'_ofNat_word {lo len : Nat} (h : lo + len ≤ 32) (n : Nat) :
    (BitVec.ofNat 32 n).extractLsb' lo len = BitVec.ofNat len (n / 2 ^ lo) := by
  have hsplit : 2 ^ 32 = 2 ^ lo * 2 ^ (32 - lo) := by rw [← pow_add]; congr 1; omega
  apply BitVec.eq_of_toNat_eq
  rw [field_number, BitVec.toNat_ofNat, BitVec.toNat_ofNat, hsplit, Nat.mod_mul_right_div_self,
    Nat.mod_mod_of_dvd _ (pow_dvd_pow 2 (by omega))]

/-- LDFSR writes the fields of R56 but ftt, qne and ver. -/
theorem fsrLoad_ofNat (x : Fsr) (n : Nat) : x.load (BitVec.ofNat 32 n) =
    { x with rd := BitVec.ofNat 2 (n / 2 ^ 30), rp := BitVec.ofNat 2 (n / 2 ^ 28), tem := BitVec.ofNat 5 (n / 2 ^ 23),
             fcc := BitVec.ofNat 2 (n / 2 ^ 10), aexc := BitVec.ofNat 5 (n / 2 ^ 5), cexc := BitVec.ofNat 5 n } := by
  simp [Fsr.load, extractLsb'_ofNat_word]

/-- Queue and mode of the FPU, and everything outside it but PC and nPC, are unchanged by a floating-point load. -/
def fpLoadFrame (s t : State) : Prop := t.fq = s.fq ∧ t.fpuMode = s.fpuMode ∧ fpuFrame s t

theorem fpLoadFrame_advanceFp (f : Vector Word 32) (fsr : Fsr) :
    fpLoadFrame s { s with f := f, fsr := fsr }.advanceFp :=
  ⟨rfl, rfl, fun _ _ => rfl, rfl, ⟨rfl, rfl, rfl⟩, rfl, fun _ => rfl, ⟨rfl, rfl, rfl⟩, rfl, rfl⟩

theorem next_loadFreg : completes (.next (s.setFreg rd (s.mem.word st ea)).advanceFp) fun t =>
    writesF s t rd (BitVec.ofNat 32 (bytesAt s.mem st ea 4)) ∧ t.fsr = s.fsr ∧ fpLoadFrame s t := by
  rw [← word_eq]
  exact ⟨_, rfl, writesF_setFreg rfl, rfl, fpLoadFrame_advanceFp _ _⟩

theorem next_loadFpair : completes (.next (s.setFdouble rd (s.mem.double st ea)).advanceFp) fun t =>
    writesFPair s t rd (BitVec.ofNat 64 (bytesAt s.mem st ea 8)) ∧ t.fsr = s.fsr ∧ fpLoadFrame s t := by
  rw [← double_eq]
  exact ⟨_, rfl, writesFPair_setFdouble rfl, rfl, fpLoadFrame_advanceFp _ _⟩

theorem next_loadFsr : completes (.next { s with fsr := s.fsr.load (s.mem.word st ea) }.advanceFp) fun t =>
    t.f = s.f ∧ t.fsr = s.fsr.load (BitVec.ofNat 32 (bytesAt s.mem st ea 4)) ∧ fpLoadFrame s t := by
  rw [← word_eq]
  exact ⟨_, rfl, rfl, rfl, fpLoadFrame_advanceFp _ _⟩

/-! ## Stores -/

/-- `advance` of an instruction of any unit. -/
def State.advanceAs (s : State) (unit : Prev) : State := s.retire s.npc (s.npc + 4) unit

theorem advanceFp_eq (s : State) : s.advanceFp = s.advanceAs .fp := rfl

theorem advanceCp_eq (s : State) : s.advanceCp = s.advanceAs .cp := rfl

/-- A store writes its bytes, and everything but memory is as `advance` leaves it, in whichever unit it ends. -/
theorem next_stored_as (unit : Prev) (hu : ChangesMemoryOnly s u) (hbytes : storesBytes s u st a n v) :
    completes (.next (u.advanceAs unit)) fun t => storesBytes s t st a n v ∧ storeFrame s t := by
  refine ⟨_, rfl, storesBytes_congr hbytes rfl, ?_⟩
  obtain ⟨mem, stale, rfl⟩ := hu
  exact ⟨fun _ _ => rfl, rfl, ⟨rfl, rfl, rfl⟩, ⟨rfl, rfl, rfl, rfl⟩, rfl, ⟨rfl, rfl, rfl⟩, rfl, rfl⟩

theorem next_storeWord_as (unit : Prev) (hwf : Memory.wf s.mem = true) (x : Word) :
    completes (.next ((s.storeWord st ea x).advanceAs unit)) fun t => storesBytes s t st ea 4 x.toNat ∧ storeFrame s t :=
  next_stored_as unit (storeWord_changesMemoryOnly x) (storeWord_bytes s st ea x hwf)

theorem next_storeDouble_as (unit : Prev) (hwf : Memory.wf s.mem = true) (d : Doubleword) :
    completes (.next ((s.storeDouble st ea d).advanceAs unit)) fun t =>
      storesBytes s t st ea 8 d.toNat ∧ storeFrame s t :=
  next_stored_as unit (storeDouble_changesMemoryOnly d) (storeDouble_bytes s st ea d hwf)

/-- Two words stored as a doubleword are stored as the number they make, the first the more significant (R101). -/
theorem next_storeWords_as (unit : Prev) (hwf : Memory.wf s.mem = true) (hi lo : Word) :
    completes (.next ((s.storeDouble st ea (hi ++ lo)).advanceAs unit)) fun t =>
      storesBytes s t st ea 8 (hi.toNat * 2 ^ 32 + lo.toNat) ∧ storeFrame s t := by
  rw [← toNat_append_add]
  exact next_storeDouble_as unit hwf (hi ++ lo)

/-- The FSR word as a number, field by field (R56). -/
theorem fsr_toWord_toNat (x : Fsr) : x.toWord.toNat =
    x.rd.toNat * 2 ^ 30 + x.rp.toNat * 2 ^ 28 + x.tem.toNat * 2 ^ 23 + Config.fsrVer.toNat * 2 ^ 17 + x.ftt.toNat * 2 ^ 14 +
      x.qne.toNat * 2 ^ 13 + x.fcc.toNat * 2 ^ 10 + x.aexc.toNat * 2 ^ 5 + x.cexc.toNat := by
  simp only [Fsr.toWord, toNat_append_add, BitVec.toNat_ofBool, BitVec.toNat_ofNat]
  ring

end

/-! ## The instructions -/

/-- Settles O46: an allowed access in execute mode, then the registers or the FSR from its bytes. -/
theorem fpLoads : Obligations.FpLoads := by
  intro s rd rs1 src2 ⟨hef, hfpu, hm⟩
  dsimp only [exec]
  refine ⟨fun h => ⟨?ldf, ?ldfsr⟩, fun hrd h => ?lddf⟩
  case ldf => exact completes_fpEnabled hef hfpu (completes_fpLoad hm h next_loadFreg)
  case ldfsr =>
    rw [← fsrLoad_ofNat]
    exact completes_fpEnabled hef hfpu (completes_fpLoad hm h next_loadFsr)
  case lddf => exact completes_fpEnabled hef hfpu (completes_needPair hrd (completes_fpLoad hm h next_loadFpair))

/-- Settles O47: an allowed access with no exception pending, then the store. -/
theorem fpStores : Obligations.FpStores := by
  intro s rd rs1 src2 hef hfpu hm hwf
  dsimp only [exec, execStf, execStfsr, execStdf, advanceFp_eq]
  refine ⟨fun h => ⟨?stf, ?stfsr⟩, fun hrd h => ?stdf⟩
  case stf => exact completes_fpEnabled hef hfpu (completes_fpStore hm h (next_storeWord_as .fp hwf _))
  case stfsr =>
    rw [← fsr_toWord_toNat]
    exact completes_fpEnabled hef hfpu (completes_fpStore hm h (next_storeWord_as .fp hwf _))
  case stdf =>
    exact completes_fpEnabled hef hfpu
      (completes_needPair hrd (completes_fpStore hm h (next_storeWords_as .fp hwf (s.freg rd) (s.freg (rd + 1)))))

end Sys2Proof.Machine
end

section
/-! The queues: what STDFQ and STDCQ do once their unit is enabled and their access allowed (`41_load_store_fp_cp.md`
R267, R277), and the stores of the coprocessor (R274 to R276). -/

namespace Sys2Proof.Machine

open Sys2Proof

section
variable {s u t : State} {st n v : Nat} {a ea : Word} {e : QueueEntry} {rest : List QueueEntry}

/-! ## The front of a queue -/

theorem fqFront_cons (h : s.fq = e :: rest) : s.fqFront = e.addr ++ e.instr := by simp [State.fqFront, h]

theorem cqFront_cons (h : s.cp.cq = e :: rest) : s.cqFront = e.addr ++ e.instr := by simp [State.cqFront, h]

/-! ## Advancing a queue -/

/-- Outside exception mode the queue does not advance. -/
theorem popFq_of_mode_ne (hm : s.fpuMode ≠ .exception) : s.popFq = s := if_neg hm

/-- In exception mode the last entry, or none, leaves the FPU in execute mode. -/
theorem popFq_of_tail_nil (hm : s.fpuMode = .exception) (h : s.fq.tail = []) :
    s.popFq = { s with fq := [], fsr := { s.fsr with qne := false }, fpuMode := .execute } := by
  simp [State.popFq, hm, h]

/-- In exception mode an entry before the last leaves the mode alone. -/
theorem popFq_of_tail_ne_nil (hm : s.fpuMode = .exception) (h : s.fq.tail ≠ []) : s.popFq = { s with fq := s.fq.tail } := by
  obtain ⟨e, rest, htail⟩ := List.exists_cons_of_ne_nil h
  simp [State.popFq, hm, htail]

theorem popCq_cp (s : State) :
    s.popCq.cp = if Config.stdcqAdvances s.cp then { s.cp with cq := s.cp.cq.tail } else s.cp := by
  unfold State.popCq
  split <;> rfl

/-- An empty queue advances to itself. -/
theorem popCq_cp_of_nil (h : s.cp.cq = []) : s.popCq.cp = s.cp := by
  have htail : s.cp.cq.tail = s.cp.cq := by rw [h]; rfl
  rw [popCq_cp, htail]
  exact ite_self _

/-- What a store does to memory depends on the memory before only. -/
theorem storesBytes_of_mem_eq (h : storesBytes u t st a n v) (hm : u.mem = s.mem) : storesBytes s t st a n v :=
  ⟨h.1, hm ▸ h.2⟩

/-- STDFQ stores the front of the queue and leaves the FPU as `popFq` does; nothing else changes but PC and nPC. -/
theorem next_storeFqFront (hwf : Memory.wf s.mem = true) :
    completes (.next ((s.popFq.storeDouble st ea s.fqFront).advanceAs .fp)) fun t =>
      storesBytes s t st ea 8 s.fqFront.toNat ∧ keepsRegs s t ∧ t.psr = s.psr ∧ keepsControl s t ∧ t.cp = s.cp ∧
      t.f = s.f ∧ keepsOutside s t ∧ advanced s t ∧ t.fq = s.popFq.fq ∧ t.fpuMode = s.popFq.fpuMode ∧
      t.fsr = s.popFq.fsr := by
  refine completes_mono (next_storeDouble_as (s := s.popFq) .fp (by simpa using hwf) s.fqFront) fun t ht => ?_
  obtain ⟨hbytes, hregs, hpsr, hcontrol, ⟨hf, hfsr, hfq, hmode⟩, hcp, houtside, hadvanced⟩ := ht
  refine ⟨storesBytes_of_mem_eq hbytes (popFq_mem s), fun w r => ?_, by simpa using hpsr, ?_, by simpa using hcp,
    by simpa using hf, ?_, ?_, hfq, hmode, hfsr⟩
  · rw [hregs, regIn_congr (popFq_g s) (popFq_w s)]
  · simpa [keepsControl] using hcontrol
  · simpa [keepsOutside] using houtside
  · simpa [advanced] using hadvanced

/-- STDCQ stores the front of the queue and leaves the coprocessor as `popCq` does; nothing else changes but PC and
nPC. -/
theorem next_storeCqFront (hwf : Memory.wf s.mem = true) :
    completes (.next ((s.popCq.storeDouble st ea s.cqFront).advanceAs .cp)) fun t =>
      storesBytes s t st ea 8 s.cqFront.toNat ∧ t.cp = s.popCq.cp ∧ keepsRegs s t ∧ t.psr = s.psr ∧
      keepsControl s t ∧ keepsFpu s t ∧ keepsOutside s t ∧ advanced s t := by
  refine completes_mono (next_storeDouble_as (s := s.popCq) .cp (by simpa using hwf) s.cqFront) fun t ht => ?_
  obtain ⟨hbytes, hregs, hpsr, hcontrol, hfpu, hcp, houtside, hadvanced⟩ := ht
  refine ⟨storesBytes_of_mem_eq hbytes (popCq_mem s), hcp, fun w r => ?_, by simpa using hpsr, ?_, ?_, ?_, ?_⟩
  · rw [hregs, regIn_congr (popCq_g s) (popCq_w s)]
  · simpa [keepsControl] using hcontrol
  · simpa [keepsFpu] using hfpu
  · simpa [keepsOutside] using houtside
  · simpa [advanced] using hadvanced

end

/-! ## The instructions -/

theorem completes_stdfq {s : State} {rd rs1 : RegNum} {src2 : Operand2} {P : State → Prop} (hs : s.supervisor = true)
    (hef : s.efView = true) (hfpu : s.platform.fpuPresent = true) (hm : s.fpuMode ≠ .exceptionPending)
    (h : dataAllowed s (s.sum rs1 src2) 8 .write)
    (hk : completes (.next ((s.popFq.storeDouble s.dataStorage (s.sum rs1 src2) s.fqFront).advanceAs .fp)) P) :
    completes (exec (.stdfq rd rs1 src2) s) P := by
  dsimp only [exec, execStdfq, advanceFp_eq]
  exact completes_privileged hs (completes_fpEnabled hef hfpu (completes_fpStore hm h hk))

/-- Settles O48: STDFQ stores the front and advances the queue by `popFq`, whose case the mode and the queue say. -/
theorem storeFpQueue : Obligations.StoreFpQueue := by
  refine ⟨fun s rd rs1 src2 e rest hs hef hfpu hm hwf hfq h => ?entry,
    fun s rd rs1 src2 hs hef hfpu hm hwf hfq h => ⟨s.fqFront, ?empty⟩⟩
  case entry =>
    have htail : s.fq.tail = rest := by rw [hfq]; rfl
    refine completes_stdfq hs hef hfpu hm h (completes_mono (next_storeFqFront hwf) fun t ht => ?_)
    obtain ⟨hbytes, hregs, hpsr, hcontrol, hcp, hf, houtside, hadvanced, hq, hmode, hfsr⟩ := ht
    rw [fqFront_cons hfq, toNat_append_add] at hbytes
    refine ⟨hbytes, hregs, hpsr, hcontrol, hcp, hf, houtside, hadvanced, fun hexecute => ?_, fun hexception => ?_⟩
    · rw [popFq_of_mode_ne (by simp [hexecute])] at hq hmode hfsr
      exact ⟨hq, hmode.trans hexecute, hfsr⟩
    · by_cases hrest : rest = []
      · rw [popFq_of_tail_nil hexception (htail.trans hrest)] at hq hmode hfsr
        exact ⟨hq.trans hrest.symm, fun _ => ⟨hfsr, hmode⟩, fun hne => absurd hrest hne⟩
      · rw [popFq_of_tail_ne_nil hexception (htail.trans_ne hrest)] at hq hmode hfsr
        exact ⟨hq.trans htail, fun heq => absurd heq hrest, fun _ => ⟨hfsr, hmode.trans hexception⟩⟩
  case empty =>
    have htail : s.fq.tail = [] := by rw [hfq]; rfl
    refine completes_stdfq hs hef hfpu hm h (completes_mono (next_storeFqFront hwf) fun t ht => ?_)
    obtain ⟨hbytes, hregs, hpsr, hcontrol, hcp, hf, houtside, hadvanced, hq, hmode, hfsr⟩ := ht
    refine ⟨hbytes, hregs, hpsr, hcontrol, hcp, hf, houtside, hadvanced, ?_⟩
    cases hbefore : s.fpuMode with
    | execute =>
      rw [popFq_of_mode_ne (by simp [hbefore])] at hq hmode hfsr
      exact ⟨hq.trans hfq, hmode.trans hbefore, fun _ => hfsr, nofun⟩
    | exceptionPending => exact absurd hbefore hm
    | exception =>
      rw [popFq_of_tail_nil hbefore htail] at hq hmode hfsr
      exact ⟨hq, hmode, nofun, fun _ => hfsr⟩

/-- Settles O54: an allowed access with no exception signalled, then the store. -/
theorem coprocessorStores : Obligations.CoprocessorStores := by
  intro s rd rs1 src2 hec hcp he hwf
  dsimp only [exec, execStc, execStcsr, execStdc, execStdcq, advanceCp_eq]
  have enabled {n : Nat} {k : Nat → Word → Result} {P : State → Prop} (h : dataAllowed s (s.sum rs1 src2) n .write)
      (hk : completes (k s.dataStorage (s.sum rs1 src2)) P) : completes (cpEnabled s s (cpStore s rs1 src2 n k)) P :=
    completes_cpEnabled hec hcp (completes_cpStore he h hk)
  refine ⟨fun h => ⟨?stc, ?stcsr⟩, fun h => ⟨fun hrd => ?stdc, fun e rest hs hcq => ?stdcq, fun hs hcq => ?stdcqEmpty⟩⟩
  case stc | stcsr => exact enabled h (next_storeWord_as .cp hwf _)
  case stdc =>
    exact completes_cpEnabled hec hcp
      (completes_needPair hrd (completes_cpStore he h (next_storeWords_as .cp hwf (s.creg rd) (s.creg (rd + 1)))))
  case stdcq =>
    refine completes_privileged hs (enabled h (completes_mono (next_storeCqFront hwf) fun t ht => ?_))
    rwa [cqFront_cons hcq, toNat_append_add, popCq_cp, hcq] at ht
  case stdcqEmpty =>
    refine ⟨s.cqFront, completes_privileged hs (enabled h (completes_mono (next_storeCqFront hwf) fun t ht => ?_))⟩
    obtain ⟨hbytes, hunit, hregs, hpsr, hcontrol, hfpu, houtside, hadvanced⟩ := ht
    exact ⟨hbytes, hregs, hpsr, hcontrol, hfpu, hunit.trans (popCq_cp_of_nil hcq), houtside, hadvanced⟩

end Sys2Proof.Machine
end

section
/-! Disabled and absent units (`41_load_store_fp_cp.md` R260, R270, `43_control_transfer.md` R370, R375,
`45_fpop_cpop.md` R432, R480): the enable check is the first of every instruction of the unit, but for the privilege
test of STDFQ and STDCQ and the delay slot of a branch. -/

namespace Sys2Proof.Machine

open Sys2Proof

section
variable {i : Instr} {s t : State} {k : Result}

/-! ## The checks -/

theorem notInDelaySlot_of (h : s.prev ≠ .condBranch) : notInDelaySlot s k = k := if_neg h

theorem privileged_of (h : s.supervisor = true) : privileged s k = k := if_pos h

theorem fpReady_not (h : s.efView = false ∨ s.platform.fpuPresent = false) : fpReady s k = raise s .fpDisabled :=
  fpEnabled_not h

theorem cpEnabled_not (h : s.ecView = false ∨ s.platform.cpPresent = false) : cpEnabled s t k = raise t .cpDisabled := by
  rw [cpEnabled, if_neg]
  rcases h with h | h <;> simp [h]

theorem cpReady_not (h : s.ecView = false ∨ s.platform.cpPresent = false) : cpReady s k = raise s .cpDisabled :=
  cpEnabled_not h

/-- With no coprocessor a load's trap changes none. -/
theorem cpLoadTrapped_absent (h : s.platform.cpPresent = false) : s.cpLoadTrapped = s := if_neg (by simp [h])

/-! ## The instructions of each unit -/

/-- A floating-point instruction without its unit is the trap. -/
theorem exec_fp_disabled (hi : isFloatingPoint i = true) (hslot : s.prev ≠ .condBranch)
    (hstdfq : s.supervisor = true ∨ ∀ rd rs1 src2, i ≠ .stdfq rd rs1 src2)
    (hoff : s.efView = false ∨ s.platform.fpuPresent = false) : exec i s = raise s .fpDisabled := by
  cases i <;> dsimp only [exec]
  case fbn | fbne | fblg | fbul | fbl | fbug | fbg | fbu | fba | fbe | fbue | fbge | fbuge | fble | fbule | fbo =>
    exact (notInDelaySlot_of hslot).trans (fpReady_not hoff)
  case stdfq =>
    have hs : s.supervisor = true := hstdfq.resolve_right fun hne => hne _ _ _ rfl
    exact (privileged_of hs).trans (fpEnabled_not hoff)
  case ldf | ldfsr | lddf | stf | stfsr | stdf => exact fpEnabled_not hoff
  case fmovs | fnegs | fabss | fsqrts | fsqrtd | fsqrtx | fadds | faddd | faddx | fsubs | fsubd | fsubx | fmuls | fmuld |
      fmulx | fdivs | fdivd | fdivx | fitos | fitod | fitox | fstoi | fdtoi | fxtoi | fstod | fstox | fdtos | fdtox |
      fxtos | fxtod | fcmps | fcmpd | fcmpx | fcmpes | fcmped | fcmpex =>
    exact fpReady_not hoff
  -- the rest are no floating-point instructions
  all_goals exact absurd hi Bool.false_ne_true

/-- LDC, LDDC and LDCSR. -/
def IsCpLoad (i : Instr) : Prop := ∃ rd rs1 src2, i ∈ [Instr.ldc rd rs1 src2, .lddc rd rs1 src2, .ldcsr rd rs1 src2]

/-- A coprocessor load without its unit is the trap, taken with the coprocessor's state open (U9, log 32). -/
theorem exec_cpLoad_disabled (hi : IsCpLoad i) (hoff : s.ecView = false ∨ s.platform.cpPresent = false) :
    exec i s = raise s.cpLoadTrapped .cpDisabled := by
  obtain ⟨rd, rs1, src2, hi⟩ := hi
  simp only [List.mem_cons, List.not_mem_nil, or_false] at hi
  obtain rfl | rfl | rfl := hi <;> exact cpEnabled_not hoff

/-- Every other coprocessor instruction without its unit is the trap. -/
theorem exec_cp_disabled (hi : isCoprocessor i = true) (hload : ¬ IsCpLoad i) (hslot : s.prev ≠ .condBranch)
    (hstdcq : s.supervisor = true ∨ ∀ rd rs1 src2, i ≠ .stdcq rd rs1 src2)
    (hoff : s.ecView = false ∨ s.platform.cpPresent = false) : exec i s = raise s .cpDisabled := by
  cases i <;> dsimp only [exec]
  case cbn | cb123 | cb12 | cb13 | cb1 | cb23 | cb2 | cb3 | cba | cb0 | cb03 | cb02 | cb023 | cb01 | cb013 | cb012 =>
    exact (notInDelaySlot_of hslot).trans (cpReady_not hoff)
  case stdcq =>
    have hs : s.supervisor = true := hstdcq.resolve_right fun hne => hne _ _ _ rfl
    exact (privileged_of hs).trans (cpEnabled_not hoff)
  case cpop1 | cpop2 => exact cpReady_not hoff
  case stc | stcsr | stdc => exact cpEnabled_not hoff
  case ldc rd rs1 src2 | lddc rd rs1 src2 | ldcsr rd rs1 src2 => exact absurd ⟨rd, rs1, src2, by simp⟩ hload
  -- the rest are no coprocessor instructions
  all_goals exact absurd hi Bool.false_ne_true

end

/-- Settles O52: without its unit an instruction is the unit's trap, and for a coprocessor load the trap at
`cpLoadTrapped`. -/
theorem disabledUnitsTrap : Obligations.DisabledUnitsTrap := by
  intro i s hslot hqueue
  have hstdfq : s.supervisor = true ∨ ∀ rd rs1 src2, i ≠ .stdfq rd rs1 src2 :=
    hqueue.imp_right fun h rd rs1 src2 => (h rd rs1 src2).1
  have hstdcq : s.supervisor = true ∨ ∀ rd rs1 src2, i ≠ .stdcq rd rs1 src2 :=
    hqueue.imp_right fun h rd rs1 src2 => (h rd rs1 src2).2
  refine ⟨fun hi hoff => ?fp, fun hi habsent => ?cpAbsent, fun hi hec hload => ?cpDisabled,
    fun rd rs1 src2 hi hec hcp => ?cpLoad⟩
  case fp =>
    rw [exec_fp_disabled hi hslot hstdfq hoff]
    exact raise_effect s .fpDisabled
  case cpAbsent =>
    have htrap : exec i s = raise s .cpDisabled := by
      by_cases hload : IsCpLoad i
      · rw [exec_cpLoad_disabled hload (.inr habsent), cpLoadTrapped_absent habsent]
      · exact exec_cp_disabled hi hload hslot hstdcq (.inr habsent)
    rw [htrap]
    exact raise_effect s .cpDisabled
  case cpDisabled =>
    have hnotLoad : ¬ IsCpLoad i := fun ⟨rd, rs1, src2, hmem⟩ => by simp [hload rd rs1 src2] at hmem
    rw [exec_cp_disabled hi hnotLoad hslot hstdcq (.inl hec)]
    exact raise_effect s .cpDisabled
  case cpLoad =>
    rw [exec_cpLoad_disabled ⟨rd, rs1, src2, hi⟩ (.inl hec), cpLoadTrapped_of hcp]
    exact raise_effect _ .cpDisabled

end Sys2Proof.Machine
end

section
/-! The words the arithmetic, logical and shift instructions compute (`42_arith_logic_shift.md` sections 2 to 7), as
numbers and as bits. -/

namespace Sys2Proof.Machine

open Sys2Proof

theorem ofNat_toNat_word (a : Word) : BitVec.ofNat 32 a.toNat = a := by rw [BitVec.ofNat_toNat, BitVec.setWidth_eq]

/-! ## Sums and differences (R303, R305, R308, R310) -/

theorem add_eq_ofNat (a b : Word) : a + b = BitVec.ofNat 32 (a.toNat + b.toNat) := by
  rw [BitVec.ofNat_add, ofNat_toNat_word, ofNat_toNat_word]

theorem sub_eq_ofInt (a b : Word) : a - b = BitVec.ofInt 32 ((a.toNat : Int) - b.toNat) := by
  rw [← Int.add_neg_eq_sub, BitVec.ofInt_add, BitVec.ofInt_neg, BitVec.ofInt_natCast, BitVec.ofInt_natCast,
    ofNat_toNat_word, ofNat_toNat_word, BitVec.sub_eq_add_neg]

theorem carry_eq_ofNat (s : State) : s.carry = BitVec.ofNat 32 s.iccView.c.toNat := by
  rw [← carry_number, ofNat_toNat_word]

theorem add_carry_eq_ofNat (s : State) (a b : Word) :
    a + b + s.carry = BitVec.ofNat 32 (a.toNat + b.toNat + s.iccView.c.toNat) := by
  rw [add_eq_ofNat a b, carry_eq_ofNat, ← BitVec.ofNat_add]

theorem sub_carry_eq_ofInt (s : State) (a b : Word) :
    a - b - s.carry = BitVec.ofInt 32 ((a.toNat : Int) - b.toNat - s.iccView.c.toNat) := by
  rw [sub_eq_ofInt a b, carry_eq_ofNat, ← BitVec.ofInt_natCast, BitVec.sub_eq_add_neg, ← BitVec.ofInt_neg,
    ← BitVec.ofInt_add, Int.add_neg_eq_sub]

/-! ## Flags (R301, R302, R307) -/

/-- An unbounded signed result that no word holds. -/
def outsideWord (x : Int) : Bool := decide (x < -2 ^ 31 ∨ 2 ^ 31 ≤ x)

/-- The flags of a result: n and z are its own, v and c are those of the operation. -/
def resultFlags (r : Word) (v c : Bool) : Icc := { n := decide (r.toInt < 0), z := decide (r.toNat = 0), v := v, c := c }

theorem addFlags_add (a b : Word) : addFlags a b (a + b) =
    resultFlags (a + b) (outsideWord (a.toInt + b.toInt)) (decide (2 ^ 32 ≤ a.toNat + b.toNat)) := by
  have h := addFlags_eq a b false (a + b) (add_eq_ofNat a b)
  simpa [resultFlags, outsideWord] using h

theorem subFlags_sub (a b : Word) : subFlags a b (a - b) =
    resultFlags (a - b) (outsideWord (a.toInt - b.toInt)) (decide (a.toNat < b.toNat)) := by
  have h := subFlags_eq a b false (a - b) (by rw [sub_eq_ofInt]; simp)
  simpa [resultFlags, outsideWord] using h

theorem addFlags_add_carry (s : State) (a b : Word) : addFlags a b (a + b + s.carry) =
    resultFlags (a + b + s.carry) (outsideWord (a.toInt + b.toInt + s.iccView.c.toNat))
      (decide (2 ^ 32 ≤ a.toNat + b.toNat + s.iccView.c.toNat)) :=
  addFlags_eq a b s.iccView.c _ (add_carry_eq_ofNat s a b)

theorem subFlags_sub_carry (s : State) (a b : Word) : subFlags a b (a - b - s.carry) =
    resultFlags (a - b - s.carry) (outsideWord (a.toInt - b.toInt - s.iccView.c.toNat))
      (decide (a.toNat < b.toNat + s.iccView.c.toNat)) :=
  subFlags_eq a b s.iccView.c _ (sub_carry_eq_ofInt s a b)

theorem logicFlags_eq (r : Word) : logicFlags r = { n := r.getLsbD 31, z := decide (r = 0), v := false, c := false } := rfl

/-- A tag that is not zero is an overflow (R324). -/
theorem resultFlags_orOverflow (r : Word) (v c bad : Bool) :
    (resultFlags r v c).orOverflow bad = resultFlags r (v || bad) c := rfl

/-! ## Bits of the logical results (R312 to R323) -/

/-- Bit k of r is f k. -/
def HasBits (f : Nat → Bool) (r : Word) : Prop := ∀ k, k < 32 → r.getLsbD k = f k

section
variable (a b : Word)

theorem hasBits_not : HasBits (fun k => !b.getLsbD k) (~~~b) := fun k hk => by
  rw [BitVec.getLsbD_not, decide_eq_true hk, Bool.true_and]

theorem hasBits_and : HasBits (fun k => a.getLsbD k && b.getLsbD k) (a &&& b) := fun _ _ => BitVec.getLsbD_and

theorem hasBits_or : HasBits (fun k => a.getLsbD k || b.getLsbD k) (a ||| b) := fun _ _ => BitVec.getLsbD_or

theorem hasBits_xor : HasBits (fun k => a.getLsbD k ^^ b.getLsbD k) (a ^^^ b) := fun _ _ => BitVec.getLsbD_xor

theorem hasBits_andn : HasBits (fun k => a.getLsbD k && !b.getLsbD k) (a &&& ~~~b) := fun k hk => by
  rw [BitVec.getLsbD_and, hasBits_not b k hk]

theorem hasBits_orn : HasBits (fun k => a.getLsbD k || !b.getLsbD k) (a ||| ~~~b) := fun k hk => by
  rw [BitVec.getLsbD_or, hasBits_not b k hk]

theorem hasBits_xnor : HasBits (fun k => !(a.getLsbD k ^^ b.getLsbD k)) (~~~(a ^^^ b)) := fun k hk =>
  (hasBits_not _ k hk).trans (congrArg not BitVec.getLsbD_xor)

end

/-! ## Shifts and SETHI (R335 to R338, R340) -/

theorem shiftCount_eq_mod (b : Word) : shiftCount b = b.toNat % 32 := BitVec.extractLsb'_toNat 0 5 b

theorem shiftLeft_eq_ofNat (a : Word) (n : Nat) : a <<< n = BitVec.ofNat 32 (a.toNat * 2 ^ n) := by
  apply BitVec.eq_of_toNat_eq
  rw [BitVec.toNat_shiftLeft, BitVec.toNat_ofNat, Nat.shiftLeft_eq]

theorem ushiftRight_eq_ofNat (a : Word) (n : Nat) : a >>> n = BitVec.ofNat 32 (a.toNat / 2 ^ n) := by
  rw [← Nat.shiftRight_eq_div_pow, ← BitVec.toNat_ushiftRight, ofNat_toNat_word]

theorem sshiftRight_eq_ofInt (a : Word) (n : Nat) : a.sshiftRight n = BitVec.ofInt 32 (a.toInt / 2 ^ n) := by
  rw [BitVec.sshiftRight, Int.shiftRight_eq_div_pow]
  rfl

/-- The low ten bits of what SETHI writes are zero. -/
theorem append_zeros_eq_ofNat (imm22 : BitVec 22) : (imm22 ++ 0#10 : Word) = BitVec.ofNat 32 (imm22.toNat * 1024) := by
  have hvalue : (imm22 ++ 0#10 : Word).toNat = imm22.toNat * 1024 :=
    (toNat_append_add imm22 0#10).trans (by simp)
  rw [← hvalue, ofNat_toNat_word]

/-! ## The multiply step (R330) -/

/-- A word shifted right by one, with a bit moved in above it. -/
def shiftIn (c : Bool) (a : Word) : Word := BitVec.ofBool c ++ a.extractLsb' 1 31

theorem shiftIn_toNat (c : Bool) (a : Word) : (shiftIn c a).toNat = (if c then 2 ^ 31 else 0) + a.toNat / 2 := by
  have hlt : a.toNat / 2 < 2 ^ 31 := by have := a.isLt; omega
  rw [shiftIn, toNat_append_add, BitVec.extractLsb'_toNat, Nat.shiftRight_eq_div_pow, pow_one, Nat.mod_eq_of_lt hlt,
    BitVec.toNat_ofBool]
  cases c <;> rfl

theorem getLsbD_zero_iff_odd (a : Word) : a.getLsbD 0 = true ↔ a.toNat % 2 = 1 := by
  rw [BitVec.getLsbD, Nat.testBit_zero, decide_eq_true_eq]

theorem shiftIn_low (a y : Word) :
    shiftIn (a.getLsbD 0) y = BitVec.ofNat 32 ((if a.toNat % 2 = 1 then 2 ^ 31 else 0) + y.toNat / 2) := by
  simp only [← getLsbD_zero_iff_odd]
  rw [← shiftIn_toNat, ofNat_toNat_word]

/-- The word added to the partial sum: the multiplicand where Y[0] = 1. -/
def addend (y b : Word) : Word := if y.getLsbD 0 then b else 0#32

theorem addend_toNat (y b : Word) : (addend y b).toNat = if y.toNat % 2 = 1 then b.toNat else 0 := by
  simp only [← getLsbD_zero_iff_odd]
  exact apply_ite BitVec.toNat _ _ _

theorem exec_mulscc (rd rs1 : RegNum) (src2 : Operand2) (s : State) :
    exec (.mulscc rd rs1 src2) s =
      let op1 := shiftIn (s.iccView.n ^^ s.iccView.v) (s.reg rs1)
      let op2 := addend s.yView (s.operand2 src2)
      finishCc { s with y := shiftIn ((s.reg rs1).getLsbD 0) s.yView } rd (op1 + op2) (addFlags op1 op2 (op1 + op2)) := rfl

end Sys2Proof.Machine
end

section
/-! Arithmetic, logical, tagged and shift instructions, SETHI, UNIMP and IFLUSH (`42_arith_logic_shift.md` sections 2 to
7, `44_control_registers_misc.md` R411, R412): each is one end, `finish`, `finishCc` or a trap, with the word computed. -/

namespace Sys2Proof.Machine

open Sys2Proof

section
variable {s : State} {rd : RegNum} {r x : Word} {v c : Bool}

/-! ## The ends, with what is written said in other words -/

theorem finish_effect_of_eq (hr : r = x) : completes (finish s rd r) (aluEffect s rd x s.psr.icc) :=
  hr ▸ finish_effect s rd r

theorem finishCc_effect_of_eq {icc : Icc} (hicc : icc = resultFlags r v c) (hr : r = x) :
    completes (finishCc s rd r icc) (aluEffect s rd x (resultFlags x v c)) :=
  hr ▸ hicc ▸ finishCc_effect s rd r icc

/-- TADDccTV and TSUBccTV trap where v would be set, with nothing written (R327, R328). -/
theorem tagOverflow_or_finishCc {icc : Icc} (hicc : icc = resultFlags r v c) (hr : r = x) :
    completes (if icc.v then raise s .tagOverflow else finishCc s rd r icc)
      (if v then trapsTo s 0x0A else aluEffect s rd x (resultFlags x false c)) := by
  subst hicc
  cases v
  · exact finishCc_effect_of_eq rfl hr
  · exact raise_effect s .tagOverflow

end

/-! ## Add and subtract -/

/-- Settles O11. -/
theorem addSubResults : Obligations.AddSubResults := by
  intro s rd rs1 src2 a b c
  have hc : c = s.iccView.c.toNat := by unfold c; cases s.iccView.c <;> rfl
  refine ⟨?add, ?addx, ?sub, ?subx⟩
  case add => exact finish_effect_of_eq (add_eq_ofNat a b)
  case addx => exact finish_effect_of_eq (hc ▸ add_carry_eq_ofNat s a b)
  case sub => exact finish_effect_of_eq (sub_eq_ofInt a b)
  case subx => exact finish_effect_of_eq (hc ▸ sub_carry_eq_ofInt s a b)

/-- Settles O12. -/
theorem addSubFlags : Obligations.AddSubFlags := by
  intro s rd rs1 src2 a b
  refine ⟨?addcc, ?addxcc, ?subcc, ?subxcc⟩
  case addcc => exact finishCc_effect_of_eq (addFlags_add a b) (add_eq_ofNat a b)
  case addxcc => exact finishCc_effect_of_eq (addFlags_add_carry s a b) (add_carry_eq_ofNat s a b)
  case subcc => exact finishCc_effect_of_eq (subFlags_sub a b) (sub_eq_ofInt a b)
  case subxcc => exact finishCc_effect_of_eq (subFlags_sub_carry s a b) (sub_carry_eq_ofInt s a b)

/-! ## Logical instructions -/

/-- Settles O13. -/
theorem logicalResults : Obligations.LogicalResults := by
  intro s rd rs1 src2 a b
  exact ⟨⟨_, hasBits_and a b, finish_effect ..⟩, ⟨_, hasBits_or a b, finish_effect ..⟩,
    ⟨_, hasBits_xor a b, finish_effect ..⟩, ⟨_, hasBits_andn a b, finish_effect ..⟩,
    ⟨_, hasBits_orn a b, finish_effect ..⟩, ⟨_, hasBits_xnor a b, finish_effect ..⟩⟩

/-- Settles O14: the words of O13, with `logicFlags_eq`. -/
theorem logicalFlags : Obligations.LogicalFlags := by
  intro s rd rs1 src2 _ a b bits flags
  have finishes (r : Word) : completes (finishCc s rd r (logicFlags r)) (aluEffect s rd r (flags r)) := by
    rw [logicFlags_eq]
    exact finishCc_effect s rd r (flags r)
  exact ⟨⟨_, hasBits_and a b, finishes _⟩, ⟨_, hasBits_or a b, finishes _⟩, ⟨_, hasBits_xor a b, finishes _⟩,
    ⟨_, hasBits_andn a b, finishes _⟩, ⟨_, hasBits_orn a b, finishes _⟩, ⟨_, hasBits_xnor a b, finishes _⟩⟩

/-! ## Tagged arithmetic -/

/-- Settles O15: the flags of the plain sum and difference, with a bad tag as a further overflow. -/
theorem taggedOverflow : Obligations.TaggedOverflow := by
  intro s rd rs1 src2 _ a b tagbad
  have hadd : (addFlags a b (a + b)).orOverflow (tagBad a b) =
      resultFlags (a + b) (outsideWord (a.toInt + b.toInt) || tagbad) (decide (2 ^ 32 ≤ a.toNat + b.toNat)) := by
    rw [addFlags_add, tagBad_eq, resultFlags_orOverflow]
  have hsub : (subFlags a b (a - b)).orOverflow (tagBad a b) =
      resultFlags (a - b) (outsideWord (a.toInt - b.toInt) || tagbad) (decide (a.toNat < b.toNat)) := by
    rw [subFlags_sub, tagBad_eq, resultFlags_orOverflow]
  refine ⟨?taddcc, ?tsubcc, ?taddcctv, ?tsubcctv⟩
  case taddcc => exact finishCc_effect_of_eq hadd (add_eq_ofNat a b)
  case tsubcc => exact finishCc_effect_of_eq hsub (sub_eq_ofInt a b)
  case taddcctv => exact tagOverflow_or_finishCc hadd (add_eq_ofNat a b)
  case tsubcctv => exact tagOverflow_or_finishCc hsub (sub_eq_ofInt a b)

/-! ## The multiply step -/

/-- Writing Y, r[rd] and icc: the effect of `finishCc`, but for Y. -/
theorem finishCc_setY_effect {s : State} {y y' r r' : Word} {icc icc' : Icc} (rd : RegNum) (hy : y = y') (hr : r = r')
    (hicc : icc = icc') : completes (finishCc { s with y := y } rd r icc) fun t =>
      writesReg s t s.cwpView rd r' ∧ t.psr = { s.psr with icc := icc' } ∧ t.y = y' ∧ t.wim = s.wim ∧ t.tbr = s.tbr ∧
      keepsFpu s t ∧ t.cp = s.cp ∧ keepsMemory s t ∧ keepsOutside s t ∧ advanced s t := by
  subst hy hr hicc
  obtain ⟨t, ht, hreg, hpsr, ⟨⟨hwim, htbr, hy⟩, hfpu, hcp, hmem, houtside⟩, hpc⟩ :=
    finishCc_effect { s with y := y } rd r icc
  exact ⟨t, ht, hreg, hpsr, hy, hwim, htbr, hfpu, hcp, hmem, houtside, hpc⟩

/-- Settles O16: the operands of the addition are `shiftIn` and `addend`, whose numbers the statement names. -/
theorem multiplyStep : Obligations.MultiplyStep := by
  intro s rd rs1 src2 a b y op1 op2 r signedSum icc
  have h1 : (shiftIn (s.iccView.n ^^ s.iccView.v) a).toNat = op1 := shiftIn_toNat _ a
  have h2 : (addend y b).toNat = op2 := addend_toNat y b
  have hr : shiftIn (s.iccView.n ^^ s.iccView.v) a + addend y b = r := by rw [add_eq_ofNat, h1, h2]
  have hicc : addFlags (shiftIn (s.iccView.n ^^ s.iccView.v) a) (addend y b) r =
      resultFlags r (outsideWord signedSum) (decide (2 ^ 32 ≤ op1 + op2)) := by
    unfold signedSum
    rw [← hr, addFlags_add, ← h1, ← h2, ofNat_toNat_word, ofNat_toNat_word]
  rw [exec_mulscc]
  exact finishCc_setY_effect rd (shiftIn_low a y) hr (hr ▸ hicc)

/-! ## Shifts -/

/-- Settles O17. -/
theorem shiftResults : Obligations.ShiftResults := by
  intro s rd rs1 src2 _ a b cnt
  have hcnt : shiftCount b = cnt := shiftCount_eq_mod b
  refine ⟨?sll, ?srl, ?sra⟩
  case sll => exact finish_effect_of_eq (hcnt ▸ shiftLeft_eq_ofNat a _)
  case srl => exact finish_effect_of_eq (hcnt ▸ ushiftRight_eq_ofNat a _)
  case sra => exact finish_effect_of_eq (hcnt ▸ sshiftRight_eq_ofInt a _)

/-! ## SETHI, UNIMP and IFLUSH -/

/-- Writing r[0] changes nothing (`10_state.md` R33). -/
theorem setReg_zero (s : State) (v : Word) : s.setReg 0 v = s := by simp [State.setReg, State.setRegIn]

/-- `advance` moves PC and nPC and nothing else a statement speaks of. -/
theorem next_advance_effect (s : State) : completes (.next s.advance) fun t =>
    keepsRegs s t ∧ t.psr = s.psr ∧ keepsRest s t ∧ advanced s t :=
  ⟨_, rfl, keepsRegs_of_eq rfl rfl, rfl,
    ⟨⟨rfl, rfl, rfl⟩, ⟨rfl, rfl, rfl, rfl⟩, rfl, keepsMemory_of_eq rfl, ⟨rfl, rfl, rfl⟩⟩, rfl, rfl⟩

/-- Settles O18. -/
theorem sethiUnimpIflush : Obligations.SethiUnimpIflush := by
  refine ⟨fun s rd imm22 => ⟨?sethi, ?nop⟩, fun s rd rs1 const22 src2 => ⟨?unimp, fun hift => ?iflush, fun hift => ?refused⟩⟩
  case sethi => exact finish_effect_of_eq (append_zeros_eq_ofNat imm22)
  case nop =>
    have hexec : exec (.sethi 0 imm22) s = finish s 0 (imm22 ++ 0#10) := rfl
    rw [hexec, finish, setReg_zero]
  case unimp => exact raise_effect s .illegalInstruction
  case iflush =>
    have hexec : exec (.iflush rd rs1 src2) s = .next s.advance := if_pos hift
    rw [hexec]
    exact next_advance_effect s
  case refused =>
    have hexec : exec (.iflush rd rs1 src2) s = raise s .illegalInstruction := if_neg (by simp [hift])
    rw [hexec]
    exact raise_effect s .illegalInstruction

end Sys2Proof.Machine
end

section
/-! SAVE and RESTORE (`42_arith_logic_shift.md` R344 to R346): the window entered is tested, then CWP moves and the sum
of the old window is written in the new one. -/

namespace Sys2Proof.Machine

open Sys2Proof

section
variable {s : State} {window : BitVec 5} {invalid : Trap} {rd rs1 : RegNum} {src2 : Operand2}

theorem changeWindow_invalid (h : s.windowInvalid window = true) :
    completes (changeWindow s window invalid rd rs1 src2) (trapsTo s invalid.tt) := by
  rw [changeWindow, if_pos h]
  exact raise_effect s invalid

theorem changeWindow_valid (h : s.windowInvalid window = false) :
    completes (changeWindow s window invalid rd rs1 src2) fun t =>
      writesReg s t window rd (s.sum rs1 src2) ∧ t.psr = { s.psr with cwp := window } ∧ keepsRest s t ∧ advanced s t := by
  rw [changeWindow, if_neg (by simp [h])]
  refine ⟨_, rfl, fun w n => ?_, by simp, ?_, by simp [advanced]⟩
  · rw [regIn_congr (advance_g _) (advance_w _), regIn_setRegIn, regIn_congr (setCwp_g s window) (setCwp_w s window)]
  · exact ⟨by simp [keepsControl], by simp [keepsFpu], by simp, keepsMemory_of_eq (by simp), by simp [keepsOutside]⟩

theorem windowInvalid_eq (hwim : s.wimWrite.left = 0) : s.windowInvalid window = s.wim.getLsbD window.toNat :=
  (wimViews_of hwim).2 window

/-- Outside its window CWP is the register's, so the sum is that of the old window. -/
theorem sum_eq_ofNat (hpsr : s.psrWrite.left = 0) :
    s.sum rs1 src2 = BitVec.ofNat 32 ((s.regIn s.psr.cwp rs1).toNat + (s.operand2 src2).toNat) := by
  rw [State.sum, add_eq_ofNat, State.reg, (psrViews_of hpsr).1]

theorem exec_save (hpsr : s.psrWrite.left = 0) :
    exec (.save rd rs1 src2) s = changeWindow s (prevWindow s.psr.cwp) .windowOverflow rd rs1 src2 := by
  rw [← (psrViews_of hpsr).1]
  rfl

theorem exec_restore (hpsr : s.psrWrite.left = 0) :
    exec (.restore rd rs1 src2) s = changeWindow s (nextWindow s.psr.cwp) .windowUnderflow rd rs1 src2 := by
  rw [← (psrViews_of hpsr).1]
  rfl

end

/-- Settles O19. -/
theorem saveAndRestore : Obligations.SaveAndRestore := by
  refine ⟨fun s rd rs1 src2 cwp hwim hpsr => ?moves, fun s rd rs1 src2 hwim hpsr => ?traps⟩
  case moves =>
    intro r effect hvalid
    have hsum : s.sum rs1 src2 = r := sum_eq_ofNat hpsr
    have moves (invalid : Trap) : completes (changeWindow s cwp invalid rd rs1 src2) effect := by
      unfold effect
      rw [← hsum]
      exact changeWindow_valid (by rw [windowInvalid_eq hwim, hvalid])
    refine ⟨fun hcwp => ?save, fun hcwp => ?restore⟩
    case save =>
      obtain rfl : cwp = prevWindow s.psr.cwp := BitVec.eq_of_toNat_eq (hcwp.trans (prevWindow_toNat _).symm)
      rw [exec_save hpsr]
      exact moves .windowOverflow
    case restore =>
      obtain rfl : cwp = nextWindow s.psr.cwp := BitVec.eq_of_toNat_eq (hcwp.trans (nextWindow_toNat _).symm)
      rw [exec_restore hpsr]
      exact moves .windowUnderflow
  case traps =>
    refine ⟨fun hinvalid => ?save, fun hinvalid => ?restore⟩
    case save =>
      rw [exec_save hpsr]
      exact changeWindow_invalid (by rwa [windowInvalid_eq hwim, prevWindow_toNat])
    case restore =>
      rw [exec_restore hpsr]
      exact changeWindow_invalid (by rwa [windowInvalid_eq hwim, nextWindow_toNat])

end Sys2Proof.Machine
end

section
/-! The branches (`43_control_transfer.md` R360 to R376): Bicc, FBfcc and CBccc end with `State.branch`, each on the test
of its own condition codes, and `branch_effect` says once what that does. -/

namespace Sys2Proof.Machine

open Sys2Proof

section
variable {s : State} {cond : BitVec 4} {taken a : Bool} {disp22 : BitVec 22}

/-! ## PC and nPC (R360, R362) -/

theorem branchOffset_eq_ofInt (disp22 : BitVec 22) : branchOffset disp22 = BitVec.ofInt 32 (4 * disp22.toInt) := by
  have hmul : disp22.signExtend 32 <<< 2 = disp22.signExtend 32 * 4 := BitVec.shiftLeft_eq_mul_twoPow _ 2
  rw [branchOffset, hmul, Int.mul_comm, BitVec.ofInt_mul]
  rfl

/-- The rows of the table of R362; with the condition always the branch is taken. -/
theorem branch_branchesTo (halways : cond = 8#4 → taken = true) :
    branchesTo s (decide (cond = 8#4)) taken a disp22 (s.branch cond taken a disp22) := by
  have htarget : s.branchTarget disp22 = s.pc + BitVec.ofInt 32 (4 * disp22.toInt) := by
    rw [State.branchTarget, branchOffset_eq_ofInt]
  by_cases hcond : cond = 8#4
  case pos =>
    cases halways hcond
    cases a <;> simp [branchesTo, State.branch, hcond, htarget]
  case neg =>
    cases taken
    · cases a <;> simp [branchesTo, State.branch, hcond]
    · simp [branchesTo, State.branch, hcond, htarget]

theorem branch_effect (halways : cond = 8#4 → taken = true) :
    branchEffect s (decide (cond = 8#4)) taken a disp22 (s.branch cond taken a disp22) := by
  refine ⟨branch_branchesTo halways, keepsRegs_of_eq (by simp) (by simp), by simp, ?_⟩
  exact ⟨by simp [keepsControl], by simp [keepsFpu], by simp, keepsMemory_of_eq (by simp), by simp [keepsOutside]⟩

/-! ## Bicc (R361, R364) -/

theorem iccTest_always (icc : Icc) : iccTest 8#4 icc = true := rfl

theorem bicc_effect (hslot : s.prev ≠ .condBranch) (cond : BitVec 4) (a : Bool) (disp22 : BitVec 22) :
    completes (bicc s cond a disp22) (branchEffect s (decide (cond = 8#4)) (iccTest cond s.iccView) a disp22) := by
  rw [bicc, notInDelaySlot_of hslot]
  exact ⟨_, rfl, branch_effect fun h => h ▸ iccTest_always s.iccView⟩

/-! ## FBfcc and CBccc (R370, R371, R375, R376) -/

/-- The values of fcc (R371) or CCC (R376) at which the condition branches. -/
def ccValues (cond : BitVec 4) : List Nat :=
  match cond.toNat with
  | 0 => []
  | 1 => [1, 2, 3]
  | 2 => [1, 2]
  | 3 => [1, 3]
  | 4 => [1]
  | 5 => [2, 3]
  | 6 => [2]
  | 7 => [3]
  | 8 => [0, 1, 2, 3]
  | 9 => [0]
  | 10 => [0, 3]
  | 11 => [0, 2]
  | 12 => [0, 2, 3]
  | 13 => [0, 1]
  | 14 => [0, 1, 3]
  | _ => [0, 1, 2]

theorem ccTest_eq_mem (cond : BitVec 4) (cc : BitVec 2) : ccTest cond cc = decide (cc.toNat ∈ ccValues cond) := by
  revert cond cc
  decide

theorem ccTest_always (cc : BitVec 2) : ccTest 8#4 cc = true := rfl

theorem fbfcc_effect (hslot : s.prev ≠ .condBranch) (hready : fpuReady s) (cond : BitVec 4) (a : Bool)
    (disp22 : BitVec 22) :
    completes (fbfcc s cond a disp22) (branchEffect s (decide (cond = 8#4)) (ccTest cond s.fccView) a disp22) := by
  obtain ⟨hef, hfpu, hmode⟩ := hready
  rw [fbfcc, notInDelaySlot_of hslot, fpReady_of hef hfpu hmode]
  exact ⟨_, rfl, branch_effect fun h => h ▸ ccTest_always s.fccView⟩

/-- Not directly after a floating-point instruction fcc is the FSR's (R585). -/
theorem fbfcc_effect_of_fcc (hslot : s.prev ≠ .condBranch) (hready : fpuReady s) (hfp : s.prev ≠ .fp)
    (cond : BitVec 4) (a : Bool) (disp22 : BitVec 22) :
    completes (fbfcc s cond a disp22)
      (branchEffect s (decide (cond = 8#4)) (decide (s.fsr.fcc.toNat ∈ ccValues cond)) a disp22) := by
  have hfcc : s.fccView = s.fsr.fcc := if_neg hfp
  rw [← ccTest_eq_mem, ← hfcc]
  exact fbfcc_effect hslot hready cond a disp22

theorem cbccc_effect (hslot : s.prev ≠ .condBranch) (hec : s.ecView = true) (hcp : s.platform.cpPresent = true)
    (he : s.cp.exceptionPending = false) (cond : BitVec 4) (a : Bool) (disp22 : BitVec 22) :
    completes (cbccc s cond a disp22) (branchEffect s (decide (cond = 8#4)) (ccTest cond s.cccView) a disp22) := by
  rw [cbccc, notInDelaySlot_of hslot, cpReady_of hec hcp he]
  exact ⟨_, rfl, branch_effect fun h => h ▸ ccTest_always s.cccView⟩

/-- Not directly after a coprocessor instruction CCC is the coprocessor's (R586). -/
theorem cbccc_effect_of_ccc (hslot : s.prev ≠ .condBranch) (hec : s.ecView = true) (hcp : s.platform.cpPresent = true)
    (he : s.cp.exceptionPending = false) (hafter : s.prev ≠ .cp) (cond : BitVec 4) (a : Bool) (disp22 : BitVec 22) :
    completes (cbccc s cond a disp22)
      (branchEffect s (decide (cond = 8#4)) (decide (s.cp.ccc.toNat ∈ ccValues cond)) a disp22) := by
  have hccc : s.cccView = s.cp.ccc := if_neg hafter
  rw [← ccTest_eq_mem, ← hccc]
  exact cbccc_effect hslot hec hcp he cond a disp22

end

/-! ## The instructions -/

/-- Settles O26: each Bicc is `bicc` of its condition. -/
theorem biccOutcomes : Obligations.BiccOutcomes := by
  intro s a disp22 hslot n z v c
  have row (cond : BitVec 4) := bicc_effect hslot cond a disp22
  exact ⟨row 0, row 1, row 2, row 3, row 4, row 5, row 6, row 7, row 8, row 9, row 10, row 11, row 12, row 13,
    row 14, row 15⟩

/-- Settles O27: FBN and FBA test nothing, the other conditions fcc. -/
theorem fbfccOutcomes : Obligations.FbfccOutcomes := by
  intro s a disp22 hslot hready
  refine ⟨fbfcc_effect hslot hready 0 a disp22, fbfcc_effect hslot hready 8 a disp22, fun hfp => ?tested⟩
  have row (cond : BitVec 4) := fbfcc_effect_of_fcc hslot hready hfp cond a disp22
  exact ⟨row 1, row 2, row 3, row 4, row 5, row 6, row 7, row 9, row 10, row 11, row 12, row 13,
    row 14, row 15⟩

/-- Settles O28: CBN and CBA test nothing, the other conditions CCC. -/
theorem cbcccOutcomes : Obligations.CbcccOutcomes := by
  intro s a disp22 hslot hec hcp he
  refine ⟨cbccc_effect hslot hec hcp he 0 a disp22, cbccc_effect hslot hec hcp he 8 a disp22, fun hafter => ?tested⟩
  have row (cond : BitVec 4) := cbccc_effect_of_ccc hslot hec hcp he hafter cond a disp22
  exact ⟨row 1, row 2, row 3, row 4, row 5, row 6, row 7, row 9, row 10, row 11, row 12, row 13,
    row 14, row 15⟩

end Sys2Proof.Machine
end

section
/-! CALL, JMPL, RETT and Ticc (`43_control_transfer.md` R380 to R390). -/

namespace Sys2Proof.Machine

open Sys2Proof

section
variable {s : State} {rd rs1 : RegNum} {src2 : Operand2} {target : Word}

/-! ## CALL and JMPL (R380, R382) -/

theorem callOffset_eq_ofNat (disp30 : BitVec 30) : callOffset disp30 = BitVec.ofNat 32 (4 * disp30.toNat) := by
  have hvalue : (callOffset disp30).toNat = 4 * disp30.toNat := by
    rw [callOffset, toNat_append_add, Nat.mul_comm]
    simp
  rw [← hvalue, ofNat_toNat_word]

/-- The end of a CALL or JMPL: the link is written in the current window, and nPC is the target. -/
theorem link_jump_effect (s : State) (rd : RegNum) (target : Word) :
    completes (.next ((s.setReg rd s.pc).retire s.npc target .other)) fun t =>
      writesReg s t s.cwpView rd s.pc ∧ t.pc = s.npc ∧ t.npc = target ∧ t.psr = s.psr ∧ keepsRest s t := by
  refine ⟨_, rfl, writesReg_congr (regIn_setReg s rd s.pc) rfl rfl, rfl, rfl, by simp, ?_⟩
  exact ⟨by simp [keepsControl], by simp [keepsFpu], by simp, keepsMemory_of_eq (by simp), by simp [keepsOutside]⟩

theorem exec_call (hslot : s.prev ≠ .condBranch) (disp30 : BitVec 30) :
    exec (.call disp30) s = .next ((s.setReg 15#5 s.pc).retire s.npc (s.pc + callOffset disp30) .other) :=
  notInDelaySlot_of hslot

theorem exec_jmpl (hslot : s.prev ≠ .condBranch) : exec (.jmpl rd rs1 src2) s =
    needAligned s (s.sum rs1 src2) 4 (.next ((s.setReg rd s.pc).retire s.npc (s.sum rs1 src2) .other)) :=
  notInDelaySlot_of hslot

/-- Settles O29. -/
theorem callAndJump : Obligations.CallAndJump := by
  intro s rd rs1 src2 disp30 hslot target
  refine ⟨?call, fun (haligned : (s.sum rs1 src2).toNat % 4 = 0) => ?jmpl, fun hmisaligned => ?misaligned⟩
  case call =>
    rw [exec_call hslot, callOffset_eq_ofNat]
    exact link_jump_effect s 15 _
  case jmpl =>
    rw [exec_jmpl hslot, needAligned_of haligned]
    exact link_jump_effect s rd _
  case misaligned =>
    rw [exec_jmpl hslot]
    exact completes_needAligned_misaligned hmisaligned

/-! ## RETT (R384, R525) -/

/-- With ET = 0 a failed check is error mode. -/
theorem enterError_effect (tr : Trap) (het : s.trapsEnabled = false) :
    completes (.next (s.enterError tr)) (trapsTo s tr.tt) := by
  rw [enterError_eq_trap het]
  exact raise_effect s tr

theorem returnFromTrap_effect (s : State) (target : Word) (window : BitVec 5) :
    completes (.next (s.returnFromTrap target window)) fun t =>
      t.psr = { s.psr with et := true, s := s.psView, cwp := window } ∧ t.pc = s.npc ∧ t.npc = target ∧
      keepsRegs s t ∧ keepsRest s t :=
  ⟨_, rfl, rfl, rfl, rfl, keepsRegs_of_eq rfl rfl,
    ⟨rfl, rfl, rfl⟩, ⟨rfl, rfl, rfl, rfl⟩, rfl, keepsMemory_of_eq rfl, ⟨rfl, rfl, rfl⟩⟩

/-- RETT outside the delay slot: its checks one after the other. -/
theorem exec_rett (hslot : s.prev ≠ .condBranch) : exec (.rett rd rs1 src2) s =
    if s.trapsEnabled then raise s .illegalInstruction
    else if !s.supervisor then .next (s.enterError .privilegedInstruction)
    else if s.windowInvalid (nextWindow s.cwpView) then .next (s.enterError .windowUnderflow)
    else if (s.sum rs1 src2).toNat % 4 ≠ 0 then .next (s.enterError .memoryAddressNotAligned)
    else .next (s.returnFromTrap (s.sum rs1 src2) (nextWindow s.cwpView)) :=
  notInDelaySlot_of hslot

/-- Settles O30: outside the hazard windows the checks of `exec_rett` read the registers themselves. -/
theorem returnFromTrap : Obligations.ReturnFromTrap := by
  refine ⟨fun s rd rs1 src2 cwp hslot hpsr hwim het hs hcwp hvalid
      (haligned : (s.sum rs1 src2).toNat % 4 = 0) => ?returns,
    fun s rd rs1 src2 hslot hpsr hwim => ?fails⟩
  case returns =>
    obtain ⟨hcwpView, -, hsView, hpsView, hetView, -⟩ := psrViews_of hpsr
    have hwindow : cwp = nextWindow s.cwpView := by
      rw [hcwpView]
      exact BitVec.eq_of_toNat_eq (hcwp.trans (nextWindow_toNat _).symm)
    have hmoves : exec (.rett rd rs1 src2) s = .next (s.returnFromTrap (s.sum rs1 src2) cwp) := by
      rw [exec_rett hslot, ← hwindow]
      simp [hetView, het, hsView, hs, windowInvalid_eq hwim, hvalid, haligned]
    rw [hmoves, ← hpsView]
    exact returnFromTrap_effect s _ cwp
  case fails =>
    intro invalid target
    obtain ⟨hcwpView, -, hsView, -, hetView, -⟩ := psrViews_of hpsr
    have hinvalid : s.windowInvalid (nextWindow s.cwpView) = invalid := by
      rw [windowInvalid_eq hwim, nextWindow_toNat, hcwpView]
    rw [exec_rett hslot, hetView, hsView, hinvalid]
    refine ⟨fun het => ?illegal, fun het => ⟨fun hs => ?user, fun hs hwindow => ?underflow,
      fun hs hwindow (hmisaligned : (s.sum rs1 src2).toNat % 4 ≠ 0) => ?misaligned⟩⟩
    case illegal =>
      rw [if_pos het]
      exact raise_effect s .illegalInstruction
    all_goals rw [if_neg (by simp [het])]
    case user =>
      rw [if_pos (by simp [hs])]
      exact enterError_effect .privilegedInstruction (hetView.trans het)
    all_goals rw [if_neg (by simp [hs])]
    case underflow =>
      rw [if_pos hwindow]
      exact enterError_effect .windowUnderflow (hetView.trans het)
    case misaligned =>
      rw [if_neg (by simp [hwindow]), if_pos hmisaligned]
      exact enterError_effect .memoryAddressNotAligned (hetView.trans het)

/-! ## Ticc (R390) -/

/-- tt of a Ticc: 128 plus the low seven bits of the sum. -/
theorem trapInstruction_tt (v : Word) :
    (Trap.trapInstruction (v.extractLsb' 0 7)).tt = BitVec.ofNat 8 (128 + v.toNat % 128) := by
  have hlow : (v.extractLsb' 0 7).setWidth 8 = BitVec.ofNat 8 (v.toNat % 128) := by
    apply BitVec.eq_of_toNat_eq
    simp
  rw [BitVec.ofNat_add, ← hlow]
  rfl

theorem ticc_effect (s : State) (cond : BitVec 4) (rs1 : RegNum) (src2 : Operand2) :
    completes (ticc s cond rs1 src2)
      (if iccTest cond s.iccView then trapsTo s (BitVec.ofNat 8 (128 + (s.sum rs1 src2).toNat % 128))
        else fun t => keepsRegs s t ∧ t.psr = s.psr ∧ keepsRest s t ∧ advanced s t) := by
  unfold ticc
  split
  · rw [← trapInstruction_tt]
    exact raise_effect s _
  · exact next_advance_effect s

end

/-- Settles O31: each Ticc is `ticc` of its condition. -/
theorem ticcOutcomes : Obligations.TiccOutcomes := by
  intro s ign rs1 src2 n z v c tt row
  have ends (cond : BitVec 4) := ticc_effect s cond rs1 src2
  exact ⟨ends 0, ends 1, ends 2, ends 3, ends 4, ends 5, ends 6, ends 7, ends 8, ends 9, ends 10, ends 11,
    ends 12, ends 13, ends 14, ends 15⟩

end Sys2Proof.Machine
end

section
/-! The mark of a delay instruction (`43_control_transfer.md` R363, log 17): a delayed control transfer is refused under
it, and beside RETT only a conditional branch leaves it, so every other instruction ends without it or in a trap. -/

namespace Sys2Proof.Machine

open Sys2Proof

/-- The next state is that of a trap, or does not mark the next instruction as a delay instruction. -/
def LeavesUnmarked (s t : State) : Prop := trapped s t ∨ t.prev ≠ .condBranch

/-- The next state is that of a trap, or marks the next instruction exactly where `i` is a conditional branch whose
delay instruction comes next, or a RETT to a delay instruction a trap was taken at. -/
def LeavesMarkOf (i : Instr) (s t : State) : Prop :=
  trapped s t ∨ (t.prev = .condBranch ↔ isConditionalBranch i = true ∧ t.pc = s.npc ∨
    (∃ rd rs1 src2, i = .rett rd rs1 src2) ∧ (⟨t.pc, t.npc⟩ : DelaySlot) ∈ s.pausedDelays)

section
variable {i : Instr} {s u t : State} {k : Result} {kind : AccessKind} {n : Nat} {rs1 : RegNum} {src2 : Operand2}
  {f : Nat → Word → Result}

/-! ## The ends of an instruction -/

theorem TrapAt.unmarked (h : TrapAt s u) (tr : Trap) : LeavesUnmarked s (u.trap tr) := .inl (h.trapped tr)

theorem trap_unmarked (tr : Trap) : LeavesUnmarked s (s.trap tr) := TrapAt.same.unmarked tr

theorem trapped_takeFpException (s : State) : trapped s s.takeFpException := by
  unfold State.takeFpException
  split <;> rename_i het
  · exact ⟨_, _, enterTrap_eq_trap (s := { s with fpuMode := .exception }) het, rfl, rfl, rfl⟩
  · exact ⟨_, _, enterError_eq_trap (by simpa using het), rfl, rfl, rfl⟩

theorem unmarked_raise (tr : Trap) : Always (raise s tr) (LeavesUnmarked s) := always_raise (trap_unmarked tr)

theorem unmarked_advance : Always (.next u.advance) (LeavesUnmarked s) := always_next (.inr nofun)

theorem unmarked_advanceFp : Always (.next u.advanceFp) (LeavesUnmarked s) := always_next (.inr nofun)

theorem unmarked_advanceCp : Always (.next u.advanceCp) (LeavesUnmarked s) := always_next (.inr nofun)

theorem unmarked_fpFail {w : Word} {ftt : BitVec 3} : LeavesUnmarked s (u.fpFail w ftt) := .inr nofun

theorem unmarked_fpComplete {w : Word} {unfinished : Bool} {texc : BitVec 5} {write : State → State} :
    Always (fpComplete s w unfinished texc write) (LeavesUnmarked s) :=
  always_fpComplete (fun _ _ => unmarked_fpFail) (.inr nofun)

theorem unmarked_fpToExtended {opf : BitVec 9} {rd rs1 rs2 : RegNum} {may : BitVec 5} {a b : BitVec 96} :
    Always (fpToExtended s opf rd rs1 rs2 may a b) (LeavesUnmarked s) := by
  unfold fpToExtended
  exact unmarked_fpComplete

theorem unmarked_changeWindow {window : BitVec 5} {invalid : Trap} {rd : RegNum} :
    Always (changeWindow s window invalid rd rs1 src2) (LeavesUnmarked s) :=
  always_ite (fun _ => unmarked_raise _) fun _ => unmarked_advance

theorem unmarked_ticc {cond : BitVec 4} : Always (ticc s cond rs1 src2) (LeavesUnmarked s) :=
  always_ite (fun _ => unmarked_raise _) fun _ => unmarked_advance

/-! ## The checks before them -/

theorem unmarked_privileged (hk : Always k (LeavesUnmarked s)) : Always (privileged s k) (LeavesUnmarked s) :=
  always_privileged (trap_unmarked _) fun _ => hk

theorem unmarked_needAligned {a : Word} (hu : TrapAt s u) (hk : Always k (LeavesUnmarked s)) :
    Always (needAligned u a n k) (LeavesUnmarked s) := always_needAligned (hu.unmarked _) fun _ => hk

theorem unmarked_access {asi : BitVec 8} {a : Word} {g : Nat → Result} (hu : TrapAt s u)
    (hk : ∀ st, Always (g st) (LeavesUnmarked s)) : Always (access u asi a n kind g) (LeavesUnmarked s) :=
  always_access (hu.unmarked _) hk

theorem unmarked_dataAccess (hk : ∀ st a, Always (f st a) (LeavesUnmarked s)) :
    Always (dataAccess s rs1 src2 n kind f) (LeavesUnmarked s) :=
  unmarked_needAligned .same (unmarked_access .same fun st => hk st _)

/-- `pair` is the check of the register pair, or none. -/
theorem unmarked_altAccess {pair : Result → Result}
    (hpair : ∀ r, Always r (LeavesUnmarked s) → Always (pair r) (LeavesUnmarked s))
    (hk : ∀ st a, Always (f st a) (LeavesUnmarked s)) :
    Always (altAccess s rs1 src2 pair n kind f) (LeavesUnmarked s) :=
  always_altCheck (trap_unmarked _) (trap_unmarked _) fun _ _ _ =>
    hpair _ (unmarked_needAligned .same (unmarked_access .same fun st => hk st _))

theorem unmarked_needPair {r : RegNum} (hk : Always k (LeavesUnmarked s)) : Always (needPair r k) (LeavesUnmarked s) :=
  always_needPair fun _ => hk

theorem unmarked_needTriple {r : RegNum} (hk : Always k (LeavesUnmarked s)) :
    Always (needTriple r k) (LeavesUnmarked s) := always_needTriple fun _ => hk

theorem unmarked_fpEnabled (hk : Always k (LeavesUnmarked s)) : Always (fpEnabled s k) (LeavesUnmarked s) :=
  always_fpEnabled (trap_unmarked _) hk

theorem unmarked_fpReady (hk : Always k (LeavesUnmarked s)) : Always (fpReady s k) (LeavesUnmarked s) :=
  always_fpReady (trap_unmarked _) (.inl (trapped_takeFpException s)) (TrapAt.sequenceError.unmarked _) fun _ => hk

theorem unmarked_fpExtended {w : Word} (hk : Always k (LeavesUnmarked s)) :
    Always (fpExtended s w k) (LeavesUnmarked s) := always_fpExtended unmarked_fpFail hk

theorem unmarked_fpAccess (hk : ∀ st a, Always (f st a) (LeavesUnmarked s)) :
    Always (fpAccess s rs1 src2 n kind f) (LeavesUnmarked s) := by
  refine unmarked_needAligned .same (always_fpNoPending (.inl (trapped_takeFpException s)) fun _ => ?_)
  have haccess := unmarked_access (asi := s.dataAsi) (a := s.sum rs1 src2) (n := n) (kind := kind) .same
    fun st => hk st (s.sum rs1 src2)
  split
  · exact always_fpNoSequence (TrapAt.sequenceError.unmarked _) fun _ => haccess
  · exact haccess

theorem unmarked_cpEnabled (hu : TrapAt s u) (hk : Always k (LeavesUnmarked s)) :
    Always (cpEnabled s u k) (LeavesUnmarked s) := always_cpEnabled (hu.unmarked _) hk

theorem unmarked_cpReady (hk : Always k (LeavesUnmarked s)) : Always (cpReady s k) (LeavesUnmarked s) :=
  unmarked_cpEnabled .same (always_cpNoException ((trapAt_cpTrapped _).unmarked _) hk)

theorem unmarked_cpAccess {atTrap atException : State} (ht : TrapAt s atTrap) (he : TrapAt s atException)
    (hk : ∀ st a, Always (f st a) (LeavesUnmarked s)) :
    Always (cpAccess s atTrap atException rs1 src2 n kind f) (LeavesUnmarked s) :=
  unmarked_needAligned ht <| always_cpNoException (he.unmarked _) <| unmarked_access ht fun st => hk st _

theorem unmarked_cpLoad (hk : ∀ st a, Always (f st a) (LeavesUnmarked s)) :
    Always (cpLoad s rs1 src2 n f) (LeavesUnmarked s) := unmarked_cpAccess trapAt_cpLoadTrapped trapAt_cpLoadTrapped hk

theorem unmarked_cpStore (hk : ∀ st a, Always (f st a) (LeavesUnmarked s)) :
    Always (cpStore s rs1 src2 n f) (LeavesUnmarked s) := unmarked_cpAccess .same (trapAt_cpTrapped _) hk

end

/-! ## Every instruction that is no delayed control transfer -/

theorem exec_unmarked {i : Instr} (hi : isDelayedTransfer i = false) (s : State) :
    Always (exec i s) (LeavesUnmarked s) := by
  cases i <;> dsimp only [exec]
  -- integer instructions
  case sethi | add | and | or | xor | sub | andn | orn | xnor | addx | subx | sll | srl | sra | rdy | addcc | andcc |
      orcc | xorcc | subcc | andncc | orncc | xnorcc | addxcc | subxcc | taddcc | tsubcc | mulscc =>
    exact unmarked_advance
  case taddcctv | tsubcctv => exact always_ite (fun _ => unmarked_raise _) fun _ => unmarked_advance
  case save | restore => exact unmarked_changeWindow
  case rdpsr | rdwim | rdtbr => exact unmarked_privileged unmarked_advance
  case wry => exact always_next (.inr nofun)
  case wrwim | wrtbr => exact unmarked_privileged (always_next (.inr nofun))
  case wrpsr => exact always_ite (fun _ => unmarked_raise _) fun _ => unmarked_privileged (always_next (.inr nofun))
  case unimp => exact unmarked_raise _
  case iflush => exact always_ite (fun _ => unmarked_advance) fun _ => unmarked_raise _
  case tn | te | tle | tl | tleu | tcs | tneg | tvs | ta | tne | tg | tge | tgu | tcc | tpos | tvc =>
    exact unmarked_ticc
  case ld | ldub | lduh | ldsb | ldsh | stb | sth | st | ldstub | swap =>
    exact unmarked_dataAccess fun _ _ => unmarked_advance
  case ldd | std => exact unmarked_needPair (unmarked_dataAccess fun _ _ => unmarked_advance)
  case lda | lduba | lduha | ldsba | ldsha | stba | stha | sta | ldstuba | swapa =>
    exact unmarked_altAccess (fun _ => id) fun _ _ => unmarked_advance
  case ldda | stda => exact unmarked_altAccess (fun _ => unmarked_needPair) fun _ _ => unmarked_advance
  -- floating point
  case ldf | ldfsr | stf | stfsr => exact unmarked_fpEnabled (unmarked_fpAccess fun _ _ => unmarked_advanceFp)
  case lddf | stdf => exact unmarked_fpEnabled (unmarked_needPair (unmarked_fpAccess fun _ _ => unmarked_advanceFp))
  case stdfq => exact unmarked_privileged (unmarked_fpEnabled (unmarked_fpAccess fun _ _ => unmarked_advanceFp))
  case fmovs | fnegs | fabss | fadds | fsubs | fmuls | fdivs | fsqrts | fitos | fstoi | fcmps | fcmpes =>
    exact unmarked_fpReady unmarked_fpComplete
  case fstod | fitod | fdtos | fdtoi => exact unmarked_fpReady (unmarked_needPair unmarked_fpComplete)
  case fsqrtd | fcmpd | fcmped => exact unmarked_fpReady (unmarked_needPair (unmarked_needPair unmarked_fpComplete))
  case faddd | fsubd | fmuld | fdivd =>
    exact unmarked_fpReady (unmarked_needPair (unmarked_needPair (unmarked_needPair unmarked_fpComplete)))
  case fitox | fstox => exact unmarked_fpReady (unmarked_fpExtended (unmarked_needTriple unmarked_fpToExtended))
  case fxtoi | fxtos => exact unmarked_fpReady (unmarked_fpExtended (unmarked_needTriple unmarked_fpComplete))
  case fdtox =>
    exact unmarked_fpReady (unmarked_fpExtended (unmarked_needPair (unmarked_needTriple unmarked_fpToExtended)))
  case fxtod =>
    exact unmarked_fpReady (unmarked_fpExtended (unmarked_needTriple (unmarked_needPair unmarked_fpComplete)))
  case fsqrtx =>
    exact unmarked_fpReady (unmarked_fpExtended (unmarked_needTriple (unmarked_needTriple unmarked_fpToExtended)))
  case fcmpx | fcmpex =>
    exact unmarked_fpReady (unmarked_fpExtended (unmarked_needTriple (unmarked_needTriple unmarked_fpComplete)))
  case faddx | fsubx | fmulx | fdivx =>
    exact unmarked_fpReady <| unmarked_fpExtended <| unmarked_needTriple <| unmarked_needTriple <|
      unmarked_needTriple unmarked_fpToExtended
  -- coprocessor
  case cpop1 | cpop2 => exact unmarked_cpReady unmarked_advanceCp
  case ldc | ldcsr => exact unmarked_cpEnabled trapAt_cpLoadTrapped (unmarked_cpLoad fun _ _ => unmarked_advanceCp)
  case lddc =>
    exact unmarked_cpEnabled trapAt_cpLoadTrapped (unmarked_needPair (unmarked_cpLoad fun _ _ => unmarked_advanceCp))
  case stc | stcsr => exact unmarked_cpEnabled .same (unmarked_cpStore fun _ _ => unmarked_advanceCp)
  case stdc => exact unmarked_cpEnabled .same (unmarked_needPair (unmarked_cpStore fun _ _ => unmarked_advanceCp))
  case stdcq => exact unmarked_privileged (unmarked_cpEnabled .same (unmarked_cpStore fun _ _ => unmarked_advanceCp))
  -- the rest are delayed control transfers
  all_goals exact absurd hi.symm Bool.false_ne_true

end Sys2Proof.Machine
end

section
/-! Delayed control transfers as delay instructions (`43_control_transfer.md` R363, R576): the check each begins with,
the mark each leaves, and the mark across a trap. -/

namespace Sys2Proof.Machine

open Sys2Proof

section
variable {i : Instr} {s t : State} {k : Result} {cond : BitVec 4} {taken a : Bool} {disp22 : BitVec 22}

/-! ## The mark an instruction leaves -/

/-- What leaves no mark is neither a conditional branch nor a RETT. -/
theorem LeavesUnmarked.markOf (h : LeavesUnmarked s t) (hcond : isConditionalBranch i = false)
    (hrett : ∀ rd rs1 src2, i ≠ .rett rd rs1 src2) : LeavesMarkOf i s t := by
  refine h.imp_right fun hprev => iff_of_false hprev ?_
  rintro (⟨hbranch, -⟩ | ⟨⟨rd, rs1, src2, rfl⟩, -⟩)
  · simp [hcond] at hbranch
  · exact hrett rd rs1 src2 rfl

theorem TrapAt.markOf {u : State} (h : TrapAt s u) (tr : Trap) : LeavesMarkOf i s (u.trap tr) := .inl (h.trapped tr)

theorem enterError_markOf (het : s.trapsEnabled = false) (tr : Trap) : LeavesMarkOf i s (s.enterError tr) := by
  rw [enterError_eq_trap het]
  exact TrapAt.same.markOf tr

/-- A branch marks the next instruction where it tests its condition and the delay instruction is not annulled. -/
theorem branch_prev_eq (s : State) (cond : BitVec 4) (taken a : Bool) (disp22 : BitVec 22) :
    (s.branch cond taken a disp22).prev = .condBranch ↔
      isConditional cond = true ∧ (s.branch cond taken a disp22).pc = s.npc := by
  cases hcond : isConditional cond
  case false => unfold State.branch; split_ifs <;> simp_all
  case true =>
    have hne : cond ≠ 8#4 := fun h => by simp [isConditional, h] at hcond
    cases taken <;> cases a <;> simp [State.branch, hcond, hne]

theorem branch_markOf (hcond : isConditionalBranch i = isConditional cond)
    (hrett : ∀ rd rs1 src2, i ≠ .rett rd rs1 src2) : LeavesMarkOf i s (s.branch cond taken a disp22) := by
  have hnot : ¬ ∃ rd rs1 src2, i = .rett rd rs1 src2 := fun ⟨rd, rs1, src2, h⟩ => hrett rd rs1 src2 h
  refine .inr ?_
  rw [branch_prev_eq, hcond, or_iff_left fun h => hnot h.1]

theorem returnFromTrap_markOf {rd rs1 : RegNum} {src2 : Operand2} {target : Word} {window : BitVec 5} :
    LeavesMarkOf (.rett rd rs1 src2) s (s.returnFromTrap target window) := by
  have hcond : isConditionalBranch (.rett rd rs1 src2) = false := rfl
  refine .inr ((returnFromTrap_prev_eq s target window).trans ?_)
  simp [hcond]

/-! ## Every delayed control transfer -/

/-- i is refused as a delay instruction, and past that check it traps or leaves its mark. -/
def GuardsDelaySlot (i : Instr) (s : State) : Prop :=
  ∃ k, exec i s = notInDelaySlot s k ∧ Always k (LeavesMarkOf i s)

theorem guards_bicc (hexec : exec i s = bicc s cond a disp22) (hcond : isConditionalBranch i = isConditional cond)
    (hrett : ∀ rd rs1 src2, i ≠ .rett rd rs1 src2) : GuardsDelaySlot i s :=
  ⟨_, hexec, always_next (branch_markOf hcond hrett)⟩

theorem guards_fbfcc (hexec : exec i s = fbfcc s cond a disp22) (hcond : isConditionalBranch i = isConditional cond)
    (hrett : ∀ rd rs1 src2, i ≠ .rett rd rs1 src2) : GuardsDelaySlot i s :=
  ⟨_, hexec, always_fpReady (TrapAt.same.markOf _) (.inl (trapped_takeFpException s)) (TrapAt.sequenceError.markOf _)
    fun _ => always_next (branch_markOf hcond hrett)⟩

theorem guards_cbccc (hexec : exec i s = cbccc s cond a disp22) (hcond : isConditionalBranch i = isConditional cond)
    (hrett : ∀ rd rs1 src2, i ≠ .rett rd rs1 src2) : GuardsDelaySlot i s :=
  ⟨_, hexec, always_cpEnabled (TrapAt.same.markOf _) <| always_cpNoException ((trapAt_cpTrapped _).markOf _) <|
    always_next (branch_markOf hcond hrett)⟩

theorem guards_call (disp30 : BitVec 30) : GuardsDelaySlot (.call disp30) s :=
  ⟨_, rfl, always_next (LeavesUnmarked.markOf (.inr nofun) rfl nofun)⟩

theorem guards_jmpl (rd rs1 : RegNum) (src2 : Operand2) : GuardsDelaySlot (.jmpl rd rs1 src2) s :=
  ⟨_, rfl, always_needAligned (TrapAt.same.markOf _) fun _ =>
    always_next (LeavesUnmarked.markOf (.inr nofun) rfl nofun)⟩

/-- After its check RETT traps, enters error mode or returns. -/
theorem guards_rett (rd rs1 : RegNum) (src2 : Operand2) : GuardsDelaySlot (.rett rd rs1 src2) s := by
  refine ⟨_, rfl, always_ite (fun _ => always_raise (TrapAt.same.markOf _)) fun het => ?_⟩
  have hoff : s.trapsEnabled = false := by simpa using het
  refine always_ite (fun _ => always_next (enterError_markOf hoff _)) fun _ => ?_
  refine always_ite (fun _ => always_next (enterError_markOf hoff _)) fun _ => ?_
  refine always_ite (fun _ => always_next (enterError_markOf hoff _)) fun _ => ?_
  exact always_next returnFromTrap_markOf

theorem transfer_guardsDelaySlot (hi : isDelayedTransfer i = true) (s : State) : GuardsDelaySlot i s := by
  cases i
  case bn | be | ble | bl | bleu | bcs | bneg | bvs | ba | bne | bg | bge | bgu | bcc | bpos | bvc =>
    exact guards_bicc rfl rfl nofun
  case fbn | fbne | fblg | fbul | fbl | fbug | fbg | fbu | fba | fbe | fbue | fbge | fbuge | fble | fbule | fbo =>
    exact guards_fbfcc rfl rfl nofun
  case cbn | cb123 | cb12 | cb13 | cb1 | cb23 | cb2 | cb3 | cba | cb0 | cb03 | cb02 | cb023 | cb01 | cb013 | cb012 =>
    exact guards_cbccc rfl rfl nofun
  case call disp30 => exact guards_call disp30
  case jmpl rd rs1 src2 => exact guards_jmpl rd rs1 src2
  case rett rd rs1 src2 => exact guards_rett rd rs1 src2
  -- the rest are no delayed control transfers
  all_goals exact absurd hi Bool.false_ne_true

/-! ## Every instruction -/

theorem isDelayedTransfer_of_isConditionalBranch (h : isConditionalBranch i = true) : isDelayedTransfer i = true := by
  cases i <;> first
    | rfl
    | exact absurd h Bool.false_ne_true

/-- Every next state of every instruction is a trap's or carries the mark of the instruction. -/
theorem exec_leavesMarkOf (i : Instr) (s : State) : Always (exec i s) (LeavesMarkOf i s) := by
  cases htransfer : isDelayedTransfer i
  case true =>
    obtain ⟨k, hexec, hk⟩ := transfer_guardsDelaySlot htransfer s
    rw [hexec]
    exact always_notInDelaySlot hk
  case false =>
    have hcond : isConditionalBranch i = false :=
      Bool.eq_false_iff.2 fun h => by simp [isDelayedTransfer_of_isConditionalBranch h] at htransfer
    have hrett (rd rs1 : RegNum) (src2 : Operand2) : i ≠ .rett rd rs1 src2 := by
      rintro rfl
      exact absurd htransfer.symm Bool.false_ne_true
    exact fun t ht => (exec_unmarked htransfer s t ht).markOf hcond hrett

theorem acrossTrap_ne_condBranch (p : Prev) : p.acrossTrap ≠ .condBranch := by cases p <;> nofun

end

/-- Settles O32: the check and the mark of every instruction, and `mem_delaysAtTrap` for the mark across a trap. -/
theorem transferInDelaySlotStops : Obligations.TransferInDelaySlotStops := by
  refine ⟨fun i s hi hslot => ?refused, fun i s t ht hnot => (exec_leavesMarkOf i s t ht).resolve_left hnot,
    fun s tr => ⟨acrossTrap_ne_condBranch s.prev, ?here, fun d hd => ?elsewhere⟩⟩
  case refused =>
    obtain ⟨k, hexec, -⟩ := transfer_guardsDelaySlot hi s
    rw [hexec, notInDelaySlot, if_pos hslot]
  case here => rw [enterTrap_pausedDelays, mem_delaysAtTrap, if_pos rfl]
  case elsewhere => rw [enterTrap_pausedDelays, mem_delaysAtTrap, if_neg hd]

end Sys2Proof.Machine
end

section
/-! State-register reads and writes and the privilege test before them (`44_control_registers_misc.md` R400 to R410). -/

namespace Sys2Proof.Machine

open Sys2Proof

section
variable {s : State} {k : Result} {rd rs1 : RegNum} {src2 : Operand2}

/-! ## The words (`10_state.md` R45, R48, R49) -/

/-- The PSR word as a number, field by field. -/
theorem psr_toWord_toNat (p : Psr) : p.toWord.toNat =
    Config.psrImpl.toNat * 2 ^ 28 + Config.psrVer.toNat * 2 ^ 24 + p.icc.n.toNat * 2 ^ 23 + p.icc.z.toNat * 2 ^ 22 +
      p.icc.v.toNat * 2 ^ 21 + p.icc.c.toNat * 2 ^ 20 + p.ec.toNat * 2 ^ 13 + p.ef.toNat * 2 ^ 12 + p.pil.toNat * 2 ^ 8 +
      p.s.toNat * 2 ^ 7 + p.ps.toNat * 2 ^ 6 + p.et.toNat * 2 ^ 5 + p.cwp.toNat := by
  simp only [Psr.toWord, toNat_append_add, BitVec.toNat_ofBool, BitVec.toNat_ofNat]
  ring

theorem psr_ofWord_eq (v : Word) : Psr.ofWord v =
    { icc := ⟨v.getLsbD 23, v.getLsbD 22, v.getLsbD 21, v.getLsbD 20⟩, ec := v.getLsbD 13, ef := v.getLsbD 12,
      pil := BitVec.ofNat 4 (v.toNat / 2 ^ 8), s := v.getLsbD 7, ps := v.getLsbD 6, et := v.getLsbD 5,
      cwp := BitVec.ofNat 5 v.toNat } := by
  rw [← Nat.shiftRight_eq_div_pow]
  rfl

theorem lowByte_eq_ofNat (v : Word) : (v.extractLsb' 0 8).setWidth 32 = BitVec.ofNat 32 (v.toNat % 256) := by
  apply BitVec.eq_of_toNat_eq
  simp

theorem tbaOf_toNat (v : Word) : (tbaOf v).toNat = v.toNat / 4096 := by
  rw [tbaOf, BitVec.extractLsb'_toNat, Nat.shiftRight_eq_div_pow]
  exact Nat.mod_eq_of_lt (Nat.div_lt_of_lt_mul v.isLt)

theorem tbrWord_eq_ofNat (v : Word) (tt : BitVec 8) :
    tbrWord (tbaOf v) tt = BitVec.ofNat 32 (v.toNat / 4096 * 4096 + tt.toNat * 16) := by
  rw [← tbaOf_toNat, ← tbrWord_toNat, ofNat_toNat_word]

/-! ## The privilege test (R400) -/

theorem completes_privileged_user (hs : s.supervisor = false) : completes (privileged s k) (trapsTo s 0x03) := by
  rw [privileged, if_neg (by simp [hs])]
  exact raise_effect s .privilegedInstruction

/-- WRPSR tests the window number of the value before the privilege (R408). -/
theorem exec_wrpsr : exec (.wrpsr rd rs1 src2) s =
    if 8 ≤ (s.reg rs1 ^^^ s.operand2 src2).toNat % 32 then raise s .illegalInstruction
    else privileged s (.next (s.writePsr (Psr.ofWord (s.reg rs1 ^^^ s.operand2 src2)))) := by
  have hcwp : ((s.reg rs1 ^^^ s.operand2 src2).extractLsb' 0 5).toNat = (s.reg rs1 ^^^ s.operand2 src2).toNat % 32 :=
    BitVec.extractLsb'_toNat 0 5 _
  rw [← hcwp]
  rfl

/-! ## What a WRxxx leaves alone (R402) -/

/-- Everything but PSR, WIM, TBR, Y, PC and nPC is unchanged. -/
def controlFrame (s t : State) : Prop :=
  keepsRegs s t ∧ keepsFpu s t ∧ t.cp = s.cp ∧ keepsMemory s t ∧ keepsOutside s t ∧ advanced s t

/-- Each of the four writes is such an update of `advance`. -/
theorem setControl_frame (p : Psr) (wim tbr y : Word) (pw : DelayedWrite Psr) (ww tw yw : DelayedWrite Word) :
    controlFrame s { s.advance with
      psr := p, wim := wim, tbr := tbr, y := y, psrWrite := pw, wimWrite := ww, tbrWrite := tw, yWrite := yw } :=
  ⟨keepsRegs_of_eq rfl rfl, ⟨rfl, rfl, rfl, rfl⟩, rfl, keepsMemory_of_eq rfl, ⟨rfl, rfl, rfl⟩, rfl, rfl⟩

end

/-! ## The instructions -/

/-- Settles O34: outside its window each register is what its read sees. -/
theorem readStateRegisters : Obligations.ReadStateRegisters := by
  intro s rd rs1 low psr
  refine ⟨fun hy => ?rdy, fun hs => ⟨fun hpsr => ?rdpsr, fun hwim => ?rdwim, fun htbr => ?rdtbr⟩⟩
  case rdy => exact finish_effect_of_eq (yView_of hy)
  case rdpsr =>
    obtain ⟨-, -, -, -, -, -, -, hread⟩ := psrViews_of hpsr
    have hword : s.psrRead = BitVec.ofNat 32 psr := by rw [hread, ← ofNat_toNat_word s.psr.toWord, psr_toWord_toNat]
    exact completes_privileged hs (finish_effect_of_eq hword)
  case rdwim => exact completes_privileged hs (finish_effect_of_eq (wimViews_of hwim).1)
  case rdtbr => exact completes_privileged hs (finish_effect_of_eq (tbrViews_of htbr).1)

/-- Settles O35: past its checks each is the write of the value in the fields named, with the frame of the four. -/
theorem writeStateRegisters : Obligations.WriteStateRegisters := by
  intro s rd rs1 src2 v rest
  refine ⟨?wry, fun hs => ⟨fun hcwp => ?wrpsr, ?wrwim, ?wrtbr⟩⟩
  case wry => exact completes_next.2 ⟨rfl, rfl, rfl, rfl, rfl, setControl_frame ..⟩
  case wrpsr =>
    rw [exec_wrpsr, if_neg (not_le.2 hcwp)]
    exact completes_privileged hs (completes_next.2 ⟨psr_ofWord_eq v, ⟨rfl, rfl, rfl⟩, rfl, setControl_frame ..⟩)
  case wrwim => exact completes_privileged hs (completes_next.2 ⟨lowByte_eq_ofNat v, rfl, rfl, rfl, rfl, setControl_frame ..⟩)
  case wrtbr =>
    exact completes_privileged hs (completes_next.2 ⟨tbrWord_eq_ofNat v _, rfl, rfl, rfl, rfl, setControl_frame ..⟩)

/-- Settles O36: the privilege test is the first check of each, but for the window test of WRPSR. -/
theorem privilegedInstructionsTrap : Obligations.PrivilegedInstructionsTrap := by
  intro s rd rs1 low src2 v
  refine ⟨fun hs => ?user, fun hcwp => ?illegal⟩
  case user =>
    have traps {k : Result} : completes (privileged s k) (trapsTo s 0x03) := completes_privileged_user hs
    refine ⟨traps, traps, traps, traps, traps, traps, traps, fun hcwp => ?wrpsr⟩
    rw [exec_wrpsr, if_neg (not_le.2 hcwp)]
    exact traps
  case illegal =>
    rw [exec_wrpsr, if_pos hcwp]
    exact raise_effect s .illegalInstruction

end Sys2Proof.Machine
end

section
/-! SUPPORT. The checks of an instruction, for a property that each of its traps has: the checked instruction has the
property where what follows the check has it. -/

namespace Sys2Proof.Machine

open Sys2Proof

/-- P holds after every trap of an instruction at s. -/
def HoldsOfTraps (s : State) (P : State → Prop) : Prop := ∀ (u : State) (tr : Trap), TrapAt s u → P (u.trap tr)

section
variable {P : State → Prop} {s u : State} {k : Result} {rs1 : RegNum} {src2 : Operand2} {n : Nat} {kind : AccessKind}
  {f : Nat → Word → Result}

theorem HoldsOfTraps.passes_raise (hP : HoldsOfTraps s P) (tr : Trap) : Always (raise s tr) P :=
  always_raise (hP s tr .same)

theorem HoldsOfTraps.passes_privileged (hP : HoldsOfTraps s P) (hk : Always k P) : Always (privileged s k) P :=
  always_privileged (hP s _ .same) fun _ => hk

/-! ## Loads and stores -/

theorem HoldsOfTraps.passes_alignedAccess {asi : BitVec 8} {a : Word} {g : Nat → Result} (hP : HoldsOfTraps s P)
    (hk : ∀ st, Always (g st) P) : Always (needAligned s a n (access s asi a n kind g)) P :=
  always_needAligned (hP s _ .same) fun _ => always_access (hP s _ .same) hk

theorem HoldsOfTraps.passes_dataAccess (hP : HoldsOfTraps s P) (hk : ∀ st a, Always (f st a) P) :
    Always (dataAccess s rs1 src2 n kind f) P := hP.passes_alignedAccess fun st => hk st _

/-- `pair` is the check of the register pair, or none. -/
theorem HoldsOfTraps.passes_altAccess {pair : Result → Result} (hP : HoldsOfTraps s P)
    (hpair : ∀ r, Always r P → Always (pair r) P) (hk : ∀ st a, Always (f st a) P) :
    Always (altAccess s rs1 src2 pair n kind f) P :=
  always_altCheck (hP s _ .same) (hP s _ .same) fun _ _ _ => hpair _ (hP.passes_alignedAccess fun st => hk st _)

/-! ## The FPU -/

theorem HoldsOfTraps.passes_fpEnabled (hP : HoldsOfTraps s P) (hk : Always k P) : Always (fpEnabled s k) P :=
  always_fpEnabled (hP s _ .same) hk

/-- Taking a pending exception is a trap of the instruction; in error mode it leaves the FPU alone (log 30). -/
theorem HoldsOfTraps.takeFpException (hP : HoldsOfTraps s P) (hm : s.fpuMode = .exceptionPending) :
    P s.takeFpException := by
  unfold State.takeFpException
  split <;> rename_i het
  · exact enterTrap_eq_trap (s := { s with fpuMode := .exception }) het ▸ hP _ .fpException (.pending hm)
  · exact enterError_eq_trap (by simpa using het) ▸ hP s .fpException .same

theorem HoldsOfTraps.passes_fpNoPending (hP : HoldsOfTraps s P) (hk : Always k P) : Always (fpNoPending s k) P :=
  always_ite (fun hm => always_next (hP.takeFpException hm)) fun _ => hk

theorem HoldsOfTraps.passes_fpNoSequence (hP : HoldsOfTraps s P) (hk : Always k P) : Always (fpNoSequence s k) P :=
  always_fpNoSequence (hP _ _ .sequenceError) fun _ => hk

theorem HoldsOfTraps.passes_fpReady (hP : HoldsOfTraps s P) (hk : Always k P) : Always (fpReady s k) P :=
  hP.passes_fpEnabled (hP.passes_fpNoPending (hP.passes_fpNoSequence hk))

theorem HoldsOfTraps.passes_fpAccess (hP : HoldsOfTraps s P) (hk : ∀ st a, Always (f st a) P) :
    Always (fpAccess s rs1 src2 n kind f) P := by
  refine always_needAligned (hP s _ .same) fun _ => hP.passes_fpNoPending ?_
  have haccess : Always (access s s.dataAsi (s.sum rs1 src2) n kind fun st => f st (s.sum rs1 src2)) P :=
    always_access (hP s _ .same) fun st => hk st _
  split
  · exact hP.passes_fpNoSequence haccess
  · exact haccess

/-! ## The coprocessor -/

theorem HoldsOfTraps.passes_cpEnabled (hP : HoldsOfTraps s P) (hu : TrapAt s u) (hk : Always k P) :
    Always (cpEnabled s u k) P := always_cpEnabled (hP u _ hu) hk

theorem HoldsOfTraps.passes_cpReady (hP : HoldsOfTraps s P) (hk : Always k P) : Always (cpReady s k) P :=
  hP.passes_cpEnabled .same (always_cpNoException (hP _ _ (trapAt_cpTrapped _)) hk)

theorem HoldsOfTraps.passes_cpAccess {atTrap atException : State} (hP : HoldsOfTraps s P) (ht : TrapAt s atTrap)
    (he : TrapAt s atException) (hk : ∀ st a, Always (f st a) P) :
    Always (cpAccess s atTrap atException rs1 src2 n kind f) P :=
  always_needAligned (hP _ _ ht) fun _ => always_cpNoException (hP _ _ he) <|
    always_access (hP _ _ ht) fun st => hk st _

theorem HoldsOfTraps.passes_cpLoad (hP : HoldsOfTraps s P) (hk : ∀ st a, Always (f st a) P) :
    Always (cpLoad s rs1 src2 n f) P := hP.passes_cpAccess trapAt_cpLoadTrapped trapAt_cpLoadTrapped hk

theorem HoldsOfTraps.passes_cpStore (hP : HoldsOfTraps s P) (hk : ∀ st a, Always (f st a) P) :
    Always (cpStore s rs1 src2 n f) P := hP.passes_cpAccess .same (trapAt_cpTrapped _) hk

end

end Sys2Proof.Machine
end

section
/-! The windows of the delayed writes (`70_reset_and_hazards.md` R579): only a WRxxx opens one, every other instruction
ends with a trap or with `retire`, and a window is closed by a trap entry or after three instructions. -/

namespace Sys2Proof.Machine

open Sys2Proof

/-- The windows of the delayed writes are those of s. -/
def SameWindows (s u : State) : Prop :=
  u.psrWrite = s.psrWrite ∧ u.wimWrite = s.wimWrite ∧ u.tbrWrite = s.tbrWrite ∧ u.yWrite = s.yWrite

/-- The ways an instruction other than a WRxxx ends: a trap, or `retire` of a state that has the windows of s. -/
inductive EndsWithoutWrite (s : State) : State → Prop
  | trap {u : State} (tr : Trap) : TrapAt s u → EndsWithoutWrite s (u.trap tr)
  | retire {u : State} (pc npc : Word) (kind : Prev) : SameWindows s u → EndsWithoutWrite s (u.retire pc npc kind)

section
variable {i : Instr} {s t u : State} {cond : BitVec 4} {taken a : Bool} {disp22 : BitVec 22}

/-! ## The ends of an instruction -/

theorem traps_withoutWrite (s : State) : HoldsOfTraps s (EndsWithoutWrite s) := fun _ tr hat => .trap tr hat

/-- The ends of an instruction before `retire`, `advance` among them, change no window: the simp lemmas of the state
say so of every change. -/
theorem always_retire {pc npc : Word} {kind : Prev} (h : SameWindows s u := by simp [SameWindows]) :
    Always (.next (u.retire pc npc kind)) (EndsWithoutWrite s) := always_next (.retire pc npc kind h)

theorem fpFail_withoutWrite {w : Word} {ftt : BitVec 3} (h : SameWindows s u) : EndsWithoutWrite s (u.fpFail w ftt) :=
  .retire _ _ _ h

theorem fpComplete_withoutWrite {w : Word} {unfinished : Bool} {texc : BitVec 5} {write : State → State}
    (h : SameWindows s (write (s.fpDone texc)) := by simp [SameWindows]) :
    Always (fpComplete s w unfinished texc write) (EndsWithoutWrite s) :=
  always_fpComplete (fun _ _ => fpFail_withoutWrite ⟨rfl, rfl, rfl, rfl⟩) (.retire _ _ _ h)

theorem fpToExtended_withoutWrite {opf : BitVec 9} {rd rs1 rs2 : RegNum} {may : BitVec 5} {a b : BitVec 96} :
    Always (fpToExtended s opf rd rs1 rs2 may a b) (EndsWithoutWrite s) := by
  unfold fpToExtended
  exact fpComplete_withoutWrite

theorem fpExtended_withoutWrite {w : Word} {k : Result} (hk : Always k (EndsWithoutWrite s)) :
    Always (fpExtended s w k) (EndsWithoutWrite s) := always_fpExtended (fpFail_withoutWrite ⟨rfl, rfl, rfl, rfl⟩) hk

theorem branch_withoutWrite : Always (.next (s.branch cond taken a disp22)) (EndsWithoutWrite s) := by
  have hsame : SameWindows s s := ⟨rfl, rfl, rfl, rfl⟩
  refine always_next (iteInduction (fun _ => .retire _ _ _ hsame) fun _ => ?_)
  refine iteInduction (fun _ => .retire _ _ _ hsame) fun _ => ?_
  exact iteInduction (fun _ => .retire _ _ _ hsame) fun _ => .retire _ _ _ hsame

theorem ticc_withoutWrite {rs1 : RegNum} {src2 : Operand2} : Always (ticc s cond rs1 src2) (EndsWithoutWrite s) :=
  always_ite (fun _ => (traps_withoutWrite s).passes_raise _) fun _ => always_retire

/-- After its check RETT traps, enters error mode or returns. -/
theorem rett_withoutWrite (rd rs1 : RegNum) (src2 : Operand2) :
    Always (exec (.rett rd rs1 src2) s) (EndsWithoutWrite s) := by
  refine always_notInDelaySlot (always_ite (fun _ => (traps_withoutWrite s).passes_raise _) fun het => ?_)
  have herror (tr : Trap) : Always (.next (s.enterError tr)) (EndsWithoutWrite s) := by
    rw [enterError_eq_trap (by simpa using het)]
    exact (traps_withoutWrite s).passes_raise tr
  refine always_ite (fun _ => herror _) fun _ => always_ite (fun _ => herror _) fun _ => ?_
  exact always_ite (fun _ => herror _) fun _ => always_retire ⟨rfl, rfl, rfl, rfl⟩

/-! ## Every instruction -/

/-- Every next state of every instruction but the four writes is one of these ends. -/
theorem exec_withoutWrite (hi : isStateWrite i = false) (s : State) : Always (exec i s) (EndsWithoutWrite s) := by
  have traps := traps_withoutWrite s
  have pair {k : Result} (r : RegNum) (hk : Always k (EndsWithoutWrite s)) :
      Always (needPair r k) (EndsWithoutWrite s) := always_needPair fun _ => hk
  have triple {k : Result} (r : RegNum) (hk : Always k (EndsWithoutWrite s)) :
      Always (needTriple r k) (EndsWithoutWrite s) := always_needTriple fun _ => hk
  cases i <;> dsimp only [exec]
  -- control transfers
  case bn | be | ble | bl | bleu | bcs | bneg | bvs | ba | bne | bg | bge | bgu | bcc | bpos | bvc =>
    exact always_notInDelaySlot branch_withoutWrite
  case fbn | fbne | fblg | fbul | fbl | fbug | fbg | fbu | fba | fbe | fbue | fbge | fbuge | fble | fbule | fbo =>
    exact always_notInDelaySlot (traps.passes_fpReady branch_withoutWrite)
  case cbn | cb123 | cb12 | cb13 | cb1 | cb23 | cb2 | cb3 | cba | cb0 | cb03 | cb02 | cb023 | cb01 | cb013 | cb012 =>
    exact always_notInDelaySlot (traps.passes_cpReady branch_withoutWrite)
  case call => exact always_notInDelaySlot always_retire
  case jmpl => exact always_notInDelaySlot (always_needAligned (traps s _ .same) fun _ => always_retire)
  case rett rd rs1 src2 => exact rett_withoutWrite rd rs1 src2
  case tn | te | tle | tl | tleu | tcs | tneg | tvs | ta | tne | tg | tge | tgu | tcc | tpos | tvc => exact ticc_withoutWrite
  -- integer instructions
  case sethi | add | and | or | xor | sub | andn | orn | xnor | addx | subx | sll | srl | sra | rdy | addcc | andcc |
      orcc | xorcc | subcc | andncc | orncc | xnorcc | addxcc | subxcc | taddcc | tsubcc | mulscc =>
    exact always_retire
  case taddcctv | tsubcctv | save | restore =>
    exact always_ite (fun _ => traps.passes_raise _) fun _ => always_retire
  case rdpsr | rdwim | rdtbr => exact traps.passes_privileged always_retire
  case unimp => exact traps.passes_raise _
  case iflush => exact always_ite (fun _ => always_retire) fun _ => traps.passes_raise _
  case ld | ldub | lduh | ldsb | ldsh | stb | sth | st | ldstub | swap =>
    exact traps.passes_dataAccess fun _ _ => always_retire
  case ldd | std => exact pair _ (traps.passes_dataAccess fun _ _ => always_retire)
  case lda | lduba | lduha | ldsba | ldsha | stba | stha | sta | ldstuba | swapa =>
    exact traps.passes_altAccess (fun _ => id) fun _ _ => always_retire
  case ldda | stda => exact traps.passes_altAccess (fun _ => pair _) fun _ _ => always_retire
  -- floating point
  case ldf | ldfsr | stf | stfsr => exact traps.passes_fpEnabled (traps.passes_fpAccess fun _ _ => always_retire)
  case lddf | stdf => exact traps.passes_fpEnabled (pair _ (traps.passes_fpAccess fun _ _ => always_retire))
  case stdfq =>
    exact traps.passes_privileged (traps.passes_fpEnabled (traps.passes_fpAccess fun _ _ => always_retire))
  case fmovs | fnegs | fabss | fadds | fsubs | fmuls | fdivs | fsqrts | fitos | fstoi | fcmps | fcmpes =>
    exact traps.passes_fpReady fpComplete_withoutWrite
  case fstod | fitod | fdtos | fdtoi => exact traps.passes_fpReady (pair _ fpComplete_withoutWrite)
  case fsqrtd | fcmpd | fcmped => exact traps.passes_fpReady (pair _ (pair _ fpComplete_withoutWrite))
  case faddd | fsubd | fmuld | fdivd => exact traps.passes_fpReady (pair _ (pair _ (pair _ fpComplete_withoutWrite)))
  case fitox | fstox => exact traps.passes_fpReady (fpExtended_withoutWrite (triple _ fpToExtended_withoutWrite))
  case fxtoi | fxtos =>
    exact traps.passes_fpReady (fpExtended_withoutWrite (triple _ fpComplete_withoutWrite))
  case fdtox => exact traps.passes_fpReady (fpExtended_withoutWrite (pair _ (triple _ fpToExtended_withoutWrite)))
  case fxtod => exact traps.passes_fpReady (fpExtended_withoutWrite (triple _ (pair _ fpComplete_withoutWrite)))
  case fsqrtx =>
    exact traps.passes_fpReady (fpExtended_withoutWrite (triple _ (triple _ fpToExtended_withoutWrite)))
  case fcmpx | fcmpex =>
    exact traps.passes_fpReady (fpExtended_withoutWrite (triple _ (triple _ fpComplete_withoutWrite)))
  case faddx | fsubx | fmulx | fdivx =>
    exact traps.passes_fpReady (fpExtended_withoutWrite (triple _ (triple _ (triple _ fpToExtended_withoutWrite))))
  -- coprocessor
  case cpop1 | cpop2 => exact traps.passes_cpReady always_retire
  case ldc | ldcsr =>
    exact traps.passes_cpEnabled trapAt_cpLoadTrapped (traps.passes_cpLoad fun _ _ => always_retire)
  case lddc =>
    exact traps.passes_cpEnabled trapAt_cpLoadTrapped (pair _ (traps.passes_cpLoad fun _ _ => always_retire))
  case stc | stcsr => exact traps.passes_cpEnabled .same (traps.passes_cpStore fun _ _ => always_retire)
  case stdc => exact traps.passes_cpEnabled .same (pair _ (traps.passes_cpStore fun _ _ => always_retire))
  case stdcq =>
    exact traps.passes_privileged (traps.passes_cpEnabled .same (traps.passes_cpStore fun _ _ => always_retire))
  -- the rest are the four writes
  all_goals exact absurd hi.symm Bool.false_ne_true

/-! ## What an end does to the windows -/

theorem TrapAt.sameWindows (h : TrapAt s u) : SameWindows s u := by cases h <;> exact ⟨rfl, rfl, rfl, rfl⟩

/-- A trap closes the windows, and error mode leaves them as they are. -/
theorem trap_windows_le (u : State) (tr : Trap) :
    (u.trap tr).psrWrite.left ≤ u.psrWrite.left ∧ (u.trap tr).wimWrite.left ≤ u.wimWrite.left ∧
    (u.trap tr).tbrWrite.left ≤ u.tbrWrite.left ∧ (u.trap tr).yWrite.left ≤ u.yWrite.left := by
  unfold State.trap
  split <;> simp

theorem EndsWithoutWrite.windows_le (h : EndsWithoutWrite s t) :
    t.psrWrite.left ≤ s.psrWrite.left ∧ t.wimWrite.left ≤ s.wimWrite.left ∧ t.tbrWrite.left ≤ s.tbrWrite.left ∧
    t.yWrite.left ≤ s.yWrite.left := by
  cases h with
  | @trap u tr hat =>
    obtain ⟨hpsr, hwim, htbr, hy⟩ := hat.sameWindows
    rw [← hpsr, ← hwim, ← htbr, ← hy]
    exact trap_windows_le u tr
  | retire pc npc kind hsame =>
    obtain ⟨hpsr, hwim, htbr, hy⟩ := hsame
    rw [← hpsr, ← hwim, ← htbr, ← hy]
    exact ⟨Nat.sub_le .., Nat.sub_le .., Nat.sub_le .., Nat.sub_le ..⟩

theorem EndsWithoutWrite.windows_eq (h : EndsWithoutWrite s t) (hnot : ¬ trapped s t) :
    t.psrWrite.left = s.psrWrite.left - 1 ∧ t.wimWrite.left = s.wimWrite.left - 1 ∧
    t.tbrWrite.left = s.tbrWrite.left - 1 ∧ t.yWrite.left = s.yWrite.left - 1 := by
  cases h with
  | trap tr hat => exact absurd (hat.trapped tr) hnot
  | retire pc npc kind hsame =>
    obtain ⟨hpsr, hwim, htbr, hy⟩ := hsame
    rw [← hpsr, ← hwim, ← htbr, ← hy]
    exact ⟨rfl, rfl, rfl, rfl⟩

/-! ## Closed windows -/

/-- With every window closed the reads give what the registers hold. -/
theorem reads_of_closed (hpsr : s.psrWrite.left = 0) (hwim : s.wimWrite.left = 0) (htbr : s.tbrWrite.left = 0)
    (hy : s.yWrite.left = 0) : s.psrRead = s.psr.toWord ∧ s.wimRead = s.wim ∧ s.tbrRead = s.tbr ∧ s.yView = s.y := by
  obtain ⟨-, -, -, -, -, -, -, hread⟩ := psrViews_of hpsr
  exact ⟨hread, (wimViews_of hwim).1, (tbrViews_of htbr).1, yView_of hy⟩

theorem tick_tick_tick_left {α : Type} {d : DelayedWrite α} (h : d.left ≤ 3) : d.tick.tick.tick.left = 0 := by
  simp only [DelayedWrite.tick]
  omega

end

/-- Settles O37: closed windows read as the registers, and `exec_withoutWrite` says what leaves a window open. -/
theorem delayedWritesSettle : Obligations.DelayedWritesSettle := by
  refine ⟨fun s tr => reads_of_closed rfl rfl rfl rfl, fun s hpsr hwim htbr hy => ?settled, fun i s t hi ht => ?ends⟩
  case settled =>
    exact reads_of_closed (tick_tick_tick_left hpsr) (tick_tick_tick_left hwim) (tick_tick_tick_left htbr)
      (tick_tick_tick_left hy)
  case ends =>
    have hends := exec_withoutWrite hi s t ht
    obtain ⟨hpsr, hwim, htbr, hy⟩ := hends.windows_le
    exact ⟨hpsr, hwim, htbr, hy, hends.windows_eq⟩

end Sys2Proof.Machine
end

section
/-! The end of an FPop whose FPU is ready (`45_fpop_cpop.md` R432): by what it writes, and for a rounded result by the
exact result it rounds. -/

namespace Sys2Proof.Machine

open Sys2Proof

section
variable {s : State} {i : Instr} {k : Result} {r rd : RegNum} {declined : Bool} {texc : BitVec 5} {opf : BitVec 9}

/-! ## What a completed FPop writes -/

/-- A completed FPop that writes f registers only. -/
theorem fpopDone_of_f (texc : BitVec 5) (f : Vector Word 32) :
    fpopDone s texc s.fsr.fcc { s.fpDone texc with f := f }.advanceFp :=
  ⟨rfl, rfl, rfl, fun _ _ => rfl, rfl, ⟨rfl, rfl, rfl⟩, rfl, fun _ => rfl, ⟨rfl, rfl, rfl⟩, rfl, rfl⟩

/-- A completed compare. -/
theorem fpopDone_of_fcc (texc : BitVec 5) (fcc : BitVec 2) :
    fpopDone s texc fcc (writeFcc fcc (s.fpDone texc)).advanceFp :=
  ⟨rfl, rfl, rfl, fun _ _ => rfl, rfl, ⟨rfl, rfl, rfl⟩, rfl, fun _ => rfl, ⟨rfl, rfl, rfl⟩, rfl, rfl⟩

theorem ends_of_setFreg {v : Word} (h : exec i s = fpComplete s (encode i) declined texc fun t => t.setFreg rd v) :
    fpopEnds s i declined texc s.fsr.fcc fun t => writesF s t rd v :=
  fpComplete_ends h (writesF_setFreg rfl) (fpopDone_of_f texc _)

theorem ends_of_setFdouble {v : Doubleword}
    (h : exec i s = fpComplete s (encode i) declined texc fun t => t.setFdouble rd v) :
    fpopEnds s i declined texc s.fsr.fcc fun t => writesFPair s t rd v :=
  fpComplete_ends h (writesFPair_setFdouble rfl) (fpopDone_of_f texc _)

theorem ends_of_setFextended {v : BitVec 96}
    (h : exec i s = fpComplete s (encode i) declined texc fun t => t.setFextended rd v) :
    fpopEnds s i declined texc s.fsr.fcc fun t => writesFTriple s t rd v :=
  fpComplete_ends h (writesFTriple_setFextended rfl) (fpopDone_of_f texc _)

theorem ends_of_writeFcc {fcc : BitVec 2} (h : exec i s = fpComplete s (encode i) declined texc (writeFcc fcc)) :
    fpopEnds s i declined texc fcc fun t => t.f = s.f :=
  fpComplete_ends h rfl (fpopDone_of_fcc texc fcc)

/-! ## The checks before it -/

theorem fpReady_pass (h : fpuReady s) : fpReady s k = k := fpReady_of h.1 h.2.1 h.2.2

theorem needTriple_of (h : extendedReg r = true) : needTriple r k = k := if_pos h

/-! ## Rounded results -/

/-- Operands widened to 96 bits by way of a doubleword. -/
theorem leftUnfinished_words (s : State) (exotic : Bool) (opf : BitVec 9) (a b : Word) :
    s.leftUnfinished exotic opf (a.setWidth 64) (b.setWidth 64) =
      (exotic && s.declines opf (a.setWidth 96) (b.setWidth 96)) := by
  have widen (v : Word) : (v.setWidth 64).setWidth 96 = v.setWidth 96 := by ext; simp
  rw [State.leftUnfinished, widen, widen]

/-- `i` ends as an FPop that rounds x to a single: declined only with an operand or a result that is denormalized, tiny
or a NaN. -/
def EndsSingle (s : State) (i : Instr) (opf : BitVec 9) (rd : RegNum) (a b : Doubleword) (exotic : Bool) (x : Exact) : Prop :=
  let r := s.roundSingle opf a b x
  fpopEnds s i (s.leftUnfinished (exotic || r.exotic) opf a b) r.flags s.fsr.fcc fun t =>
    writesF s t rd (BitVec.ofNat 32 r.bits)
@[inherit_doc EndsSingle] def EndsDouble (s : State) (i : Instr) (opf : BitVec 9) (rd : RegNum) (a b : Doubleword)
    (exotic : Bool) (x : Exact) : Prop :=
  let r := s.roundDouble opf a b x
  fpopEnds s i (s.leftUnfinished (exotic || r.exotic) opf a b) r.flags s.fsr.fcc fun t =>
    writesFPair s t rd (BitVec.ofNat 64 r.bits)

/-- The same of word operands, in the words of the statements. -/
theorem EndsSingle.of_words {a b : Word} {exotic : Bool} {x : Exact}
    (h : EndsSingle s i opf rd (a.setWidth 64) (b.setWidth 64) exotic x) :
    let r := s.roundSingle opf (a.setWidth 64) (b.setWidth 64) x
    fpopEnds s i ((exotic || r.exotic) && s.declines opf (a.setWidth 96) (b.setWidth 96)) r.flags s.fsr.fcc fun t =>
      writesF s t rd (BitVec.ofNat 32 r.bits) := by
  rw [EndsSingle, leftUnfinished_words] at h
  exact h

end

end Sys2Proof.Machine
end

section
/-! Moves, arithmetic and compares of singles and doubles (`45_fpop_cpop.md` R440 to R457, R470 to R475). -/

namespace Sys2Proof.Machine

open Sys2Proof

section
variable {s : State} {i : Instr} {rd rs1 rs2 : RegNum} {opf : BitVec 9}

/-! ## Moves (R440 to R442) -/

theorem move_completes (op : Word → Word) (hready : fpuReady s) (h : exec i s = fpMove s opf rd rs1 rs2 op) :
    completes (exec i s) fun t => writesF s t rd (op (s.freg rs2)) ∧ fpopDone s 0 s.fsr.fcc t := by
  rw [h, fpMove, fpReady_pass hready, fpComplete_of rfl BitVec.zero_and]
  exact ⟨_, rfl, writesF_setFreg rfl, fpopDone_of_f 0 _⟩

theorem negated_eq_ofNat (v : Word) : v ^^^ 0x80000000#32 = BitVec.ofNat 32 ((v.toNat + 2 ^ 31) % 2 ^ 32) := by
  have hsign (k : Nat) : (0x80000000#32).getLsbD k = decide (31 = k) := Nat.testBit_two_pow (n := 31)
  apply BitVec.eq_of_getLsbD_eq
  intro k hk
  rw [BitVec.getLsbD_xor, hsign, BitVec.getLsbD_ofNat, Nat.testBit_mod_two_pow, Nat.add_comm]
  obtain hlow | rfl : k < 31 ∨ k = 31 := by omega
  · simp [Nat.testBit_two_pow_add_gt hlow, hk, hlow.ne', BitVec.getLsbD]
  · rw [Nat.testBit_two_pow_add_eq]
    simp [BitVec.getLsbD]

theorem absolute_eq_ofNat (v : Word) : v &&& 0x7FFFFFFF#32 = BitVec.ofNat 32 (v.toNat % 2 ^ 31) := by
  have hmask : (0x7FFFFFFF#32).toNat = 2 ^ 31 - 1 := rfl
  apply BitVec.eq_of_toNat_eq
  rw [BitVec.toNat_and, hmask, Nat.and_two_pow_sub_one_eq_mod, BitVec.toNat_ofNat]
  omega

/-- Settles O38. -/
theorem fpMoves : Obligations.FpMoves := by
  intro s rd rs1 rs2 hready
  dsimp only
  rw [← negated_eq_ofNat, ← absolute_eq_ofNat]
  exact ⟨move_completes id hready rfl, move_completes (· ^^^ 0x80000000#32) hready rfl,
    move_completes (· &&& 0x7FFFFFFF#32) hready rfl⟩

/-! ## Arithmetic (R443 to R457) -/

theorem binaryS_ends {op : Number → Number → Exact} (hready : fpuReady s)
    (h : exec i s = fpBinaryS s opf rd rs1 rs2 op) (hw : encode i = fpop1Word opf rd rs1 rs2) :
    EndsSingle s i opf rd ((s.freg rs1).setWidth 64) ((s.freg rs2).setWidth 64) (exoticS (s.freg rs1) || exoticS (s.freg rs2))
      (op (numberS (s.freg rs1)) (numberS (s.freg rs2))) :=
  ends_of_setFreg (by rw [h, fpBinaryS, fpReady_pass hready, hw]; rfl)

theorem unarySS_ends {op : Number → Exact} (hready : fpuReady s)
    (h : exec i s = fpUnarySS s opf rd rs1 rs2 op) (hw : encode i = fpop1Word opf rd rs1 rs2) :
    EndsSingle s i opf rd 0 ((s.freg rs2).setWidth 64) (exoticS (s.freg rs2)) (op (numberS (s.freg rs2))) :=
  ends_of_setFreg (by rw [h, fpUnarySS, fpReady_pass hready, hw]; rfl)

theorem binaryD_ends {op : Number → Number → Exact} (hready : fpuReady s) (h1 : rs1.toNat % 2 = 0) (h2 : rs2.toNat % 2 = 0)
    (hrd : rd.toNat % 2 = 0) (h : exec i s = fpBinaryD s opf rd rs1 rs2 op) (hw : encode i = fpop1Word opf rd rs1 rs2) :
    EndsDouble s i opf rd (s.fdouble rs1) (s.fdouble rs2) (exoticD (s.fdouble rs1) || exoticD (s.fdouble rs2))
      (op (numberD (s.fdouble rs1)) (numberD (s.fdouble rs2))) :=
  ends_of_setFdouble (by
    rw [h, fpBinaryD, fpReady_pass hready, needPair_of h1, needPair_of h2, needPair_of hrd, hw]; rfl)

theorem unaryDD_ends {op : Number → Exact} (hready : fpuReady s) (h2 : rs2.toNat % 2 = 0) (hrd : rd.toNat % 2 = 0)
    (h : exec i s = fpUnaryDD s opf rd rs1 rs2 op) (hw : encode i = fpop1Word opf rd rs1 rs2) :
    EndsDouble s i opf rd 0 (s.fdouble rs2) (exoticD (s.fdouble rs2)) (op (numberD (s.fdouble rs2))) :=
  ends_of_setFdouble (by rw [h, fpUnaryDD, fpReady_pass hready, needPair_of h2, needPair_of hrd, hw]; rfl)

end

/-- Settles O39: each is an operation of two operands, or of one, rounded to single. -/
theorem fpArithmeticSingle : Obligations.FpArithmeticSingle := by
  intro s rd rs1 rs2 hready
  exact ⟨(binaryS_ends hready rfl rfl).of_words, (binaryS_ends hready rfl rfl).of_words, (binaryS_ends hready rfl rfl).of_words,
    (binaryS_ends hready rfl rfl).of_words, (unarySS_ends hready rfl rfl).of_words (a := 0)⟩

/-- Settles O40: the same with pairs, whose register checks pass. -/
theorem fpArithmeticDouble : Obligations.FpArithmeticDouble := by
  intro s rd rs1 rs2 hready hrd h2
  exact ⟨fun h1 => ⟨binaryD_ends hready h1 h2 hrd rfl rfl, binaryD_ends hready h1 h2 hrd rfl rfl,
    binaryD_ends hready h1 h2 hrd rfl rfl, binaryD_ends hready h1 h2 hrd rfl rfl⟩, unaryDD_ends hready h2 hrd rfl rfl⟩

end Sys2Proof.Machine
end

section
/-! CPop1, CPop2 and the coprocessor loads (`45_fpop_cpop.md` R480 to R482, `41_load_store_fp_cp.md` R270 to R273): the
coprocessor alone changes. -/

namespace Sys2Proof.Machine

open Sys2Proof

section
variable {s : State} {k : Result} {st n : Nat} {ea : Word} {rd rs1 : RegNum} {src2 : Operand2}
  {f : Nat → Word → Result} {P : State → Prop}

/-! ## The checks -/

theorem completes_cpReady (hec : s.ecView = true) (hcp : s.platform.cpPresent = true) (he : s.cp.exceptionPending = false)
    (hk : completes k P) : completes (cpReady s k) P := by
  rwa [cpReady_of hec hcp he]

/-- A signalled exception is taken with ET = 1, and acknowledged (log 32). -/
theorem cpReady_pending (hec : s.ecView = true) (hcp : s.platform.cpPresent = true) (he : s.cp.exceptionPending = true)
    (het : s.trapsEnabled = true) : completes (cpReady s k) (trapsTo { s with cp := Config.cpAcknowledge s.cp } 0x28) := by
  have hack : s.cpAcknowledged = { s with cp := Config.cpAcknowledge s.cp } := if_pos het
  rw [cpReady, cpEnabled_of hec hcp, cpNoException, if_pos he, hack]
  exact raise_effect _ .cpException

theorem completes_cpLoad (he : s.cp.exceptionPending = false) (h : dataAllowed s (s.sum rs1 src2) n .read)
    (hk : completes (f s.dataStorage (s.sum rs1 src2)) P) : completes (cpLoad s rs1 src2 n f) P := by
  obtain ⟨haligned, hfault⟩ := h
  have hplatform : s.cpLoadTrapped.platform = s.platform := by simp
  rw [cpLoad, cpAccess, needAligned_of haligned, cpNoException_of he,
    access_of (hplatform ▸ hfault) (hplatform ▸ storageOf_dataAsi s)]
  exact hk

/-! ## What each leaves the coprocessor as -/

/-- Everything but the coprocessor, PC and nPC is unchanged. -/
def cpFrame (s t : State) : Prop :=
  keepsMemory s t ∧ keepsRegs s t ∧ t.psr = s.psr ∧ keepsControl s t ∧ keepsFpu s t ∧ keepsOutside s t ∧ advanced s t

theorem cpFrame_advanceCp (s : State) (x : Coprocessor) : cpFrame s { s with cp := x }.advanceCp :=
  ⟨fun _ => rfl, fun _ _ => rfl, rfl, ⟨rfl, rfl, rfl⟩, ⟨rfl, rfl, rfl, rfl⟩, ⟨rfl, rfl, rfl⟩, rfl, rfl⟩

theorem next_cp (x : Coprocessor) : completes (.next { s with cp := x }.advanceCp) fun t => t.cp = x ∧ cpFrame s t :=
  ⟨_, rfl, rfl, cpFrame_advanceCp s x⟩

theorem next_loadCreg : completes (.next (s.setCreg rd (s.mem.word st ea)).advanceCp) fun t =>
    (∀ k, t.creg k = if k = rd then BitVec.ofNat 32 (bytesAt s.mem st ea 4) else s.creg k) ∧
    t.cp = { s.cp with c := t.cp.c } ∧ cpFrame s t := by
  rw [← word_eq]
  exact ⟨_, rfl, fun k => creg_setCreg s rd k _, rfl, cpFrame_advanceCp s _⟩

/-- LDCSR writes the writable bits and keeps the others (R272). -/
theorem loadCsr_bit (w : Word) (k : Nat) : (s.loadCsr w).cp.csr.getLsbD k =
    if Config.csrWritable.getLsbD k then w.getLsbD k else s.cp.csr.getLsbD k := by
  rw [State.loadCsr, BitVec.getLsbD_or, BitVec.getLsbD_and, BitVec.getLsbD_and, BitVec.getLsbD_not]
  cases hw : Config.csrWritable.getLsbD k
  · have hlow : s.cp.csr.getLsbD k = true → k < 32 := BitVec.lt_of_getLsbD
    simpa [hw] using hlow
  · simp

theorem next_loadCsr : completes (.next (s.loadCsr (s.mem.word st ea)).advanceCp) fun t =>
    (∀ k, t.cp.csr.getLsbD k = if Config.csrWritable.getLsbD k then
      (BitVec.ofNat 32 (bytesAt s.mem st ea 4)).getLsbD k else s.cp.csr.getLsbD k) ∧
    t.cp = { s.cp with csr := t.cp.csr, ccc := Config.cccAfterLdcsr s.cp (BitVec.ofNat 32 (bytesAt s.mem st ea 4)) } ∧
    cpFrame s t := by
  rw [← word_eq]
  exact ⟨_, rfl, loadCsr_bit _, rfl, cpFrame_advanceCp s _⟩

theorem double_hi (m : Memory) (st : Nat) (a : Word) : (m.double st a).extractLsb' 32 32 = m.word st a := by
  rw [Memory.double, BitVec.extractLsb'_append_eq_left]

theorem double_lo (m : Memory) (st : Nat) (a : Word) : (m.double st a).extractLsb' 0 32 = m.word st (a + 4) := by
  rw [Memory.double, BitVec.extractLsb'_append_eq_right]

theorem next_loadCpair : completes (.next ((s.setCreg rd ((s.mem.double st ea).extractLsb' 32 32)).setCreg (pairOf rd)
      ((s.mem.double st ea).extractLsb' 0 32)).advanceCp) fun t =>
    (∀ k, t.creg k = if k = rd then BitVec.ofNat 32 (bytesAt s.mem st ea 4)
      else if k = rd + 1 then BitVec.ofNat 32 (bytesAt s.mem st (ea + 4) 4) else s.creg k) ∧
    t.cp = { s.cp with c := t.cp.c } ∧ cpFrame s t := by
  rw [double_hi, double_lo, ← word_eq, ← word_eq]
  refine ⟨_, rfl, fun k => ?_, rfl, cpFrame_advanceCp s _⟩
  have hne : rd ≠ rd + 1 := by simp
  rw [creg_congr (advanceCp_cp _), creg_setCreg, creg_setCreg, pairOf]
  by_cases hk : k = rd
  · rw [hk, if_neg hne, if_pos rfl, if_pos rfl]
  · rw [if_neg hk, if_neg hk]

end

/-- Settles O53: the checks pass, and the coprocessor's new state is the open function's or the words loaded. -/
theorem coprocessorOperationsAndLoads : Obligations.CoprocessorOperationsAndLoads := by
  refine ⟨fun s opc rd rs1 rs2 hec hcp => ⟨fun he => ?cpop, fun he het => ?pending⟩, fun s rd rs1 src2 hec hcp he => ?load⟩
  case cpop => exact ⟨completes_cpReady hec hcp he (next_cp _), completes_cpReady hec hcp he (next_cp _)⟩
  case pending => exact ⟨cpReady_pending hec hcp he het, cpReady_pending hec hcp he het⟩
  case load =>
    refine ⟨fun h => ⟨?ldc, ?ldcsr⟩, fun hrd h => ?lddc⟩
    case ldc => exact completes_cpEnabled hec hcp (completes_cpLoad he h next_loadCreg)
    case ldcsr => exact completes_cpEnabled hec hcp (completes_cpLoad he h next_loadCsr)
    case lddc =>
      exact completes_cpEnabled hec hcp (completes_needPair hrd (completes_cpLoad he h next_loadCpair))

end Sys2Proof.Machine
end

section
/-! A pending floating-point exception and a sequence error (`45_fpop_cpop.md` R433, R434, `41_load_store_fp_cp.md` R260,
R268): the check that takes them comes before everything an instruction does. -/

namespace Sys2Proof.Machine

open Sys2Proof

section
variable {i : Instr} {s : State} {k : Result} {rd rs1 : RegNum} {src2 : Operand2} {n : Nat} {kind : AccessKind}
  {f : Nat → Word → Result}

/-- The result is the pending exception, taken, or in error mode with the FPU as it is (log 30). -/
def TakesPending (s : State) (x : Result) : Prop :=
  completes x (trapsTo (if s.trapsEnabled then { s with fpuMode := .exception } else s) 0x08)

/-- The result is the trap of a sequence error. -/
def TakesSequence (s : State) (x : Result) : Prop :=
  completes x (trapsTo { s with fsr := { s.fsr with ftt := 4 } } 0x08)

/-! ## The checks -/

theorem takeFpException_eq (s : State) :
    s.takeFpException = (if s.trapsEnabled then { s with fpuMode := .exception } else s).trap .fpException := by
  unfold State.takeFpException
  split
  case isTrue het => exact enterTrap_eq_trap het
  case isFalse het => exact enterError_eq_trap (by simpa using het)

theorem fpNoPending_takes (hm : s.fpuMode = .exceptionPending) : TakesPending s (fpNoPending s k) := by
  rw [fpNoPending, if_pos hm, takeFpException_eq]
  exact raise_effect _ .fpException

theorem fpNoSequence_takes (hm : s.fpuMode = .exception) : TakesSequence s (fpNoSequence s k) := by
  rw [fpNoSequence, if_pos hm]
  exact raise_effect _ .fpException

theorem fpReady_pending (hef : s.efView = true) (hfpu : s.platform.fpuPresent = true) (hm : s.fpuMode = .exceptionPending) :
    TakesPending s (fpReady s k) := by
  exact completes_fpEnabled hef hfpu (fpNoPending_takes hm)

theorem fpReady_sequence (hef : s.efView = true) (hfpu : s.platform.fpuPresent = true) (hm : s.fpuMode = .exception) :
    TakesSequence s (fpReady s k) := by
  rw [fpReady, fpEnabled_of hef hfpu, fpNoPending_of (by simp [hm])]
  exact fpNoSequence_takes hm

theorem fpAccess_pending (ha : (s.sum rs1 src2).toNat % n = 0) (hm : s.fpuMode = .exceptionPending) :
    TakesPending s (fpAccess s rs1 src2 n kind f) := by
  rw [fpAccess, needAligned_of ha]
  exact fpNoPending_takes hm

theorem fpAccess_sequence (ha : (s.sum rs1 src2).toNat % n = 0) (hm : s.fpuMode = .exception) :
    TakesSequence s (fpAccess s rs1 src2 n .read f) := by
  rw [fpAccess, needAligned_of ha, fpNoPending_of (by simp [hm]), if_pos rfl]
  exact fpNoSequence_takes hm

/-! ## The instructions -/

/-- An FPop and an FBfcc outside a delay slot begin with `fpReady`. -/
theorem exec_fpReady (hi : isFloatingPoint i = true) (hstore : isStore i = false) (hslot : s.prev ≠ .condBranch)
    (hload : ∀ rd rs1 src2, i ≠ .ldf rd rs1 src2 ∧ i ≠ .lddf rd rs1 src2 ∧ i ≠ .ldfsr rd rs1 src2) :
    ∃ k, exec i s = fpReady s k := by
  cases i
  case fbn | fbne | fblg | fbul | fbl | fbug | fbg | fbu | fba | fbe | fbue | fbge | fbuge | fble | fbule | fbo =>
    exact ⟨_, notInDelaySlot_of hslot⟩
  case fmovs | fnegs | fabss | fsqrts | fsqrtd | fsqrtx | fadds | faddd | faddx | fsubs | fsubd | fsubx | fmuls | fmuld |
      fmulx | fdivs | fdivd | fdivx | fitos | fitod | fitox | fstoi | fdtoi | fxtoi | fstod | fstox | fdtos | fdtox |
      fxtos | fxtod | fcmps | fcmpd | fcmpx | fcmpes | fcmped | fcmpex =>
    exact ⟨_, rfl⟩
  case ldf rd rs1 src2 | lddf rd rs1 src2 | ldfsr rd rs1 src2 => simpa using hload rd rs1 src2
  case stf | stfsr | stdf | stdfq => exact nomatch hstore
  -- the rest are no floating-point instructions
  all_goals exact absurd hi Bool.false_ne_true

end

/-- Settles O45: with the unit enabled the check for a pending exception or a sequence error is the next, after alignment,
the pair check and the privilege test of a load or store. -/
theorem pendingExceptionTaken : Obligations.PendingExceptionTaken := by
  intro i s hef hfpu hslot hi
  have enabled {k : Result} {P : State → Prop} (hk : completes k P) : completes (fpEnabled s k) P :=
    completes_fpEnabled hef hfpu hk
  refine ⟨fun hstore hload => ?operate,
    fun rd rs1 src2 hm => ⟨fun ha hmem => ?word, fun ha hrd hmem => ?pair, fun ha hs hq => ?queue⟩,
    fun rd rs1 src2 hm => ⟨fun ha hmem => ?loadWord, fun ha hrd hq => ?loadPair⟩⟩
  case operate =>
    obtain ⟨k, hk⟩ := exec_fpReady hi hstore hslot hload
    rw [hk]
    exact ⟨fpReady_pending hef hfpu, fpReady_sequence hef hfpu⟩
  case word =>
    simp only [List.mem_cons, List.not_mem_nil, or_false] at hmem
    obtain rfl | rfl | rfl | rfl := hmem <;> exact enabled (fpAccess_pending ha hm)
  case pair =>
    simp only [List.mem_cons, List.not_mem_nil, or_false] at hmem
    obtain rfl | rfl := hmem <;> exact enabled (completes_needPair hrd (fpAccess_pending ha hm))
  case queue =>
    subst hq
    exact completes_privileged hs (enabled (fpAccess_pending ha hm))
  case loadWord =>
    simp only [List.mem_cons, List.not_mem_nil, or_false] at hmem
    obtain rfl | rfl := hmem <;> exact enabled (fpAccess_sequence ha hm)
  case loadPair =>
    subst hq
    exact enabled (completes_needPair hrd (fpAccess_sequence ha hm))

end Sys2Proof.Machine
end

section
/-! NaNs, infinities and divisions by zero (`45_fpop_cpop.md` R435, R437). -/

namespace Sys2Proof.Machine

open Sys2Proof

/-! ## NaN operands -/

/-- The operation answers a NaN for a NaN, invalid where one is signaling. -/
def PropagatesNan (op : Number → Number → Exact) : Prop :=
  ∀ x y, (∃ q, x = .nan q) ∨ (∃ q, y = .nan q) → op x y = .nan (decide (x = .nan true ∨ y = .nan true))

/-- An operation propagates NaNs where it does so by the constructors of its operands. -/
theorem propagatesNan_of {op : Number → Number → Exact} (hboth : ∀ a b, op (.nan a) (.nan b) = .nan (a || b))
    (hleftInfinity : ∀ a n, op (.nan a) (.infinity n) = .nan a) (hleftFinite : ∀ a n m e, op (.nan a) (.finite n m e) = .nan a)
    (hrightInfinity : ∀ b n, op (.infinity n) (.nan b) = .nan b) (hrightFinite : ∀ b n m e, op (.finite n m e) (.nan b) = .nan b) :
    PropagatesNan op := by
  intro x y h
  cases x with
  | nan a =>
    cases y with
    | nan b => rw [hboth]; cases a <;> cases b <;> rfl
    | infinity n => rw [hleftInfinity]; simp
    | finite n m e => rw [hleftFinite]; simp
  | infinity n =>
    cases y with
    | nan b => rw [hrightInfinity]; simp
    | infinity | finite => simp at h
  | finite n m e =>
    cases y with
    | nan b => rw [hrightFinite]; simp
    | infinity | finite => simp at h

theorem exactAdd_propagatesNan (rd : BitVec 2) : PropagatesNan (exactAdd rd) :=
  propagatesNan_of (fun _ _ => rfl) (fun _ _ => rfl) (fun _ _ _ _ => rfl) (fun _ _ => rfl) fun _ _ _ _ => rfl

theorem exactMul_propagatesNan : PropagatesNan exactMul :=
  propagatesNan_of (fun _ _ => rfl) (fun _ _ => rfl) (fun _ _ _ _ => rfl) (fun _ _ => rfl) fun _ _ _ _ => rfl

theorem exactDiv_propagatesNan (fmt : Format) : PropagatesNan (exactDiv fmt) :=
  propagatesNan_of (fun _ _ => rfl) (fun _ _ => rfl) (fun _ _ _ _ => rfl) (fun _ _ => rfl) fun _ _ _ _ => rfl

theorem negate_eq_nan {y : Number} {q : Bool} : y.negate = .nan q ↔ y = .nan q := by
  cases y <;> simp [Number.negate]

/-- A NaN keeps its kind when its sign is changed. -/
theorem exactSub_propagatesNan (rd : BitVec 2) : PropagatesNan (exactSub rd) := by
  intro x y h
  have hadd := exactAdd_propagatesNan rd x y.negate
  simp only [negate_eq_nan] at hadd
  exact hadd h

/-! ## The NaN result is quiet -/

/-- Bits whose exponent is all ones and whose quiet bit is set are a quiet NaN. -/
theorem unpack_quiet {fmt : Format} {bits : Nat} (he : bits / 2 ^ fmt.fracBits % 2 ^ fmt.expBits = 2 ^ fmt.expBits - 1)
    (hq : 2 ^ (fmt.fracBits - 1) ≤ bits % 2 ^ fmt.fracBits) : fmt.unpack bits = .nan false := by
  have hne : bits % 2 ^ fmt.fracBits ≠ 0 := fun h => absurd (h ▸ hq) (by simp)
  rw [Format.unpack, if_pos he, if_neg hne, decide_eq_false (by omega)]

/-- Bits `lo` to `lo + len` of a word, all set in `mask`, are all set in a word or-ed with it. -/
theorem field_or_mask {n : Nat} (w mask : BitVec n) {lo len : Nat} (hmask : mask.toNat / 2 ^ lo % 2 ^ len = 2 ^ len - 1) :
    (w ||| mask).toNat / 2 ^ lo % 2 ^ len = 2 ^ len - 1 := by
  rw [BitVec.toNat_or, ← Nat.shiftRight_eq_div_pow, Nat.shiftRight_or_distrib, Nat.or_mod_two_pow,
    Nat.shiftRight_eq_div_pow, Nat.shiftRight_eq_div_pow, hmask]
  apply Nat.eq_of_testBit_eq
  intro k
  by_cases hk : k < len <;> simp [Nat.testBit_two_pow_sub_one, Nat.testBit_mod_two_pow, hk]

theorem quiet_of_field {bits frac : Nat} (h : bits / 2 ^ (frac - 1) % 2 ^ 1 = 2 ^ 1 - 1) (hfrac : 1 ≤ frac) :
    2 ^ (frac - 1) ≤ bits % 2 ^ frac := by
  obtain ⟨f, rfl⟩ : ∃ f, frac = f + 1 := ⟨frac - 1, by omega⟩
  rw [Nat.add_sub_cancel] at h ⊢
  have hhalf : bits % 2 ^ (f + 1) / 2 ^ f = 1 := by
    rw [pow_succ, Nat.mod_mul_right_div_self]
    exact h
  calc 2 ^ f = bits % 2 ^ (f + 1) / 2 ^ f * 2 ^ f := by rw [hhalf, one_mul]
    _ ≤ _ := Nat.div_mul_le_self _ _

theorem numberS_quiet (w : Word) : numberS (w ||| 0x7FC00000#32) = .nan false :=
  unpack_quiet (field_or_mask w _ (lo := 23) (len := 8) rfl)
    (quiet_of_field (field_or_mask w _ (lo := 22) (len := 1) rfl) (by decide))

theorem numberD_quiet (d : Doubleword) : numberD (d ||| 0x7FF8000000000000#64) = .nan false :=
  unpack_quiet (field_or_mask d _ (lo := 52) (len := 11) rfl)
    (quiet_of_field (field_or_mask d _ (lo := 51) (len := 1) rfl) (by decide))

/-- Settles O51: NaNs propagate; the clauses on infinities and zeros are cases of the operations. -/
theorem specialOperands : Obligations.SpecialOperands := by
  refine ⟨fun fmt rd ufm nan => ⟨fun x y h => ⟨?add, ?sub, ?mul, ?div⟩, fun q => ⟨rfl, rfl⟩, fun n k m e z => ?infinities⟩,
    numberS_quiet, numberD_quiet⟩
  case add => exact congrArg (fmt.finish rd ufm nan) (exactAdd_propagatesNan rd x y h)
  case sub => exact congrArg (fmt.finish rd ufm nan) (exactSub_propagatesNan rd x y h)
  case mul => exact congrArg (fmt.finish rd ufm nan) (exactMul_propagatesNan x y h)
  case div => exact congrArg (fmt.finish rd ufm nan) (exactDiv_propagatesNan fmt x y h)
  case infinities =>
    refine ⟨rfl, rfl, rfl, rfl, ?addInfinities, ?subInfinities, rfl, ?mulInfinity, ?mulFinite, rfl, rfl, rfl, ?divZero, ?sqrtInfinity,
      fun hm => ?sqrtNegative, rfl⟩
    case addInfinities => cases n <;> cases k <;> rfl
    case subInfinities => cases n <;> cases k <;> rfl
    case mulInfinity | mulFinite | divZero =>
      by_cases hm : m = 0 <;> simp [exactMul, exactDiv, hm, Format.finish, raiseIf, nvBit, dzBit]
    case sqrtInfinity => cases n <;> rfl
    case sqrtNegative => simp [exactSqrt, hm, Format.finish, raiseIf, nvBit]

end Sys2Proof.Machine
end

section
/-! Extended FPops (`45_fpop_cpop.md` R431, R437 d): the arithmetic is open, the ends are those of every FPop. -/

namespace Sys2Proof.Machine

open Sys2Proof

section
variable {s : State} {i : Instr} {k : Result} {rd rs1 rs2 : RegNum} {opf : BitVec 9} {may texc : BitVec 5} {w : Word}

/-! ## The checks -/

theorem readyExtended_pass (hready : fpuReady s) (hx : s.platform.extendedImplemented = true) :
    fpReady s (fpExtended s w k) = k := by rw [fpReady_pass hready, fpExtended_of hx]

/-- Without extended precision the FPop fails before its registers are looked at (log 26, 33). -/
theorem readyExtended_unimplemented (hready : fpuReady s) (hx : s.platform.extendedImplemented = false)
    (h : exec i s = fpReady s (fpExtended s (encode i) k)) : completes (exec i s) (fpopFails s (encode i) 3 s.fsr.cexc) := by
  rw [h, fpReady_pass hready, fpExtended, if_neg (by simp [hx])]
  exact ⟨_, rfl, fpFail_effect s _ 3 s.fsr.cexc⟩

/-! ## Extended results -/

/-- `i` ends as an operation with an extended result, which raises exceptions of `may` only. -/
def EndsExtended (s : State) (i : Instr) (opf : BitVec 9) (rd : RegNum) (may : BitVec 5) (a b : BitVec 96) : Prop :=
  fpopEnds s i (decide (may ≠ 0) && s.declines opf a b) (Config.extendedFlags opf s.fsr.rd s.fsr.rp a b &&& may) s.fsr.fcc
    fun t => writesFTriple s t rd (Config.extendedResult opf s.fsr.rd s.fsr.rp a b)

theorem toExtended_ends {a b : BitVec 96} (hw : encode i = fpop1Word opf rd rs1 rs2)
    (h : exec i s = fpToExtended s opf rd rs1 rs2 may a b) : EndsExtended s i opf rd may a b :=
  ends_of_setFextended (by rw [h, fpToExtended, fpExtendedOp, hw])

theorem binaryX_ends (hready : fpuReady s) (hx : s.platform.extendedImplemented = true) (h1 : extendedReg rs1 = true)
    (h2 : extendedReg rs2 = true) (hrd : extendedReg rd = true) (hw : encode i = fpop1Word opf rd rs1 rs2)
    (h : exec i s = fpBinaryX s opf rd rs1 rs2 may) :
    EndsExtended s i opf rd may (s.fextended rs1) (s.fextended rs2) :=
  toExtended_ends hw (by
    rw [h, fpBinaryX, readyExtended_pass hready hx, needTriple_of h1, needTriple_of h2, needTriple_of hrd])

theorem unaryXX_ends (hready : fpuReady s) (hx : s.platform.extendedImplemented = true) (h2 : extendedReg rs2 = true)
    (hrd : extendedReg rd = true) (hw : encode i = fpop1Word opf rd rs1 rs2) (h : exec i s = fpUnaryXX s opf rd rs1 rs2 may) :
    EndsExtended s i opf rd may 0 (s.fextended rs2) :=
  toExtended_ends hw (by rw [h, fpUnaryXX, readyExtended_pass hready hx, needTriple_of h2, needTriple_of hrd]; rfl)

theorem unaryWX_ends (hready : fpuReady s) (hx : s.platform.extendedImplemented = true) (hrd : extendedReg rd = true)
    (hw : encode i = fpop1Word opf rd rs1 rs2) (h : exec i s = fpUnaryWX s opf rd rs1 rs2 may) :
    EndsExtended s i opf rd may 0 ((s.freg rs2).setWidth 96) :=
  toExtended_ends hw (by rw [h, fpUnaryWX, readyExtended_pass hready hx, needTriple_of hrd]; rfl)

theorem unaryDX_ends (hready : fpuReady s) (hx : s.platform.extendedImplemented = true) (h2 : rs2.toNat % 2 = 0)
    (hrd : extendedReg rd = true) (hw : encode i = fpop1Word opf rd rs1 rs2) (h : exec i s = fpUnaryDX s opf rd rs1 rs2 may) :
    EndsExtended s i opf rd may 0 ((s.fdouble rs2).setWidth 96) :=
  toExtended_ends hw (by rw [h, fpUnaryDX, readyExtended_pass hready hx, needPair_of h2, needTriple_of hrd]; rfl)

/-! ## Results in another format -/

theorem fxtoi_ends (hready : fpuReady s) (hx : s.platform.extendedImplemented = true) (h2 : extendedReg rs2 = true) :
    fpopEnds s (.fxtoi rd rs1 rs2) (s.declines 0x0D3 0 (s.fextended rs2)) (Config.extendedIntFlags (s.fextended rs2) &&& 0x11)
      s.fsr.fcc fun t => writesF s t rd (Config.extendedInt (s.fextended rs2)) :=
  ends_of_setFreg (by
    dsimp only [exec, execFxtoi, fpUnaryXI]
    rw [readyExtended_pass hready hx, needTriple_of h2]; rfl)

theorem fxtos_ends (hready : fpuReady s) (hx : s.platform.extendedImplemented = true) (h2 : extendedReg rs2 = true) :
    fpopEnds s (.fxtos rd rs1 rs2) (s.declines 0x0C7 0 (s.fextended rs2))
      (Config.extendedNarrowFlags 0x0C7 s.fsr.rd (s.fextended rs2) &&& 0x1D) s.fsr.fcc
      fun t => writesF s t rd ((Config.extendedNarrow 0x0C7 s.fsr.rd (s.fextended rs2)).extractLsb' 0 32) :=
  ends_of_setFreg (by
    dsimp only [exec, execFxtos, fpUnaryXS]
    rw [readyExtended_pass hready hx, needTriple_of h2, ← BitVec.setWidth_eq_extractLsb' (by decide)]; rfl)

theorem fxtod_ends (hready : fpuReady s) (hx : s.platform.extendedImplemented = true) (h2 : extendedReg rs2 = true)
    (hrd : rd.toNat % 2 = 0) :
    fpopEnds s (.fxtod rd rs1 rs2) (s.declines 0x0CB 0 (s.fextended rs2))
      (Config.extendedNarrowFlags 0x0CB s.fsr.rd (s.fextended rs2) &&& 0x1D) s.fsr.fcc
      fun t => writesFPair s t rd (Config.extendedNarrow 0x0CB s.fsr.rd (s.fextended rs2)) :=
  ends_of_setFdouble (by
    dsimp only [exec, execFxtod, fpUnaryXD]
    rw [readyExtended_pass hready hx, needTriple_of h2, needPair_of hrd]; rfl)

/-! ## Compares (R470) -/

theorem compareExtended_unordered (a b : BitVec 96) :
    compareExtended a b = 3 ↔ Config.extendedIsNan a = true ∨ Config.extendedIsNan b = true := by
  unfold compareExtended
  split
  case isTrue h => simpa using h
  case isFalse h => cases Config.extendedOrder a b <;> simpa using h

theorem compareExtended_ordered {a b : BitVec 96} (ha : Config.extendedIsNan a = false) (hb : Config.extendedIsNan b = false) :
    (compareExtended a b = 0 ↔ Config.extendedOrder a b = .eq) ∧ (compareExtended a b = 1 ↔ Config.extendedOrder a b = .lt) := by
  rw [compareExtended, if_neg (by simp [ha, hb])]
  cases Config.extendedOrder a b <;> decide

theorem raiseIf_and_self (b : Bool) (bit : BitVec 5) : raiseIf b bit &&& bit = if b then bit else 0 := by
  cases b <;> simp [raiseIf]

theorem compareExtended_flags (signalAll : Bool) (a b : BitVec 96) : compareExtendedFlags signalAll a b &&& nvBit =
    if Config.extendedIsNan a && (signalAll || Config.extendedIsSignaling a) ||
      Config.extendedIsNan b && (signalAll || Config.extendedIsSignaling b) then 0x10 else 0 :=
  raiseIf_and_self _ nvBit

theorem compareX_ends {signalAll : Bool} (hready : fpuReady s) (hx : s.platform.extendedImplemented = true)
    (h1 : extendedReg rs1 = true) (h2 : extendedReg rs2 = true) (hw : encode i = fpop2Word opf rd rs1 rs2)
    (h : exec i s = fpCompareX s opf rd rs1 rs2 signalAll) :
    fpopEnds s i (s.declines opf (s.fextended rs1) (s.fextended rs2))
      (compareExtendedFlags signalAll (s.fextended rs1) (s.fextended rs2) &&& nvBit)
      (compareExtended (s.fextended rs1) (s.fextended rs2)) fun t => t.f = s.f :=
  ends_of_writeFcc (by
    rw [h, fpCompareX, readyExtended_pass hready hx, needTriple_of h1, needTriple_of h2, hw]; rfl)

end

/-- Settles O43. -/
theorem extendedOperations : Obligations.ExtendedOperations := by
  refine ⟨fun s rd rs1 rs2 hready hx => ⟨fun h1 h2 => ?binary, fun h2 => ?unary, ?fitox, ?fstox, ?fdtox⟩,
    fun s rd rs1 rs2 hready hx i hi => ?unimplemented⟩
  case binary =>
    have compared {i : Instr} {opf : BitVec 9} {signalAll : Bool} (hw : encode i = fpop2Word opf rd rs1 rs2)
        (h : exec i s = fpCompareX s opf rd rs1 rs2 signalAll) :=
      compareX_ends hready hx h1 h2 hw h
    simp only [compareExtended_flags] at compared
    refine ⟨fun hrd => binaryX_ends hready hx h1 h2 hrd rfl rfl, fun hrd => binaryX_ends hready hx h1 h2 hrd rfl rfl,
      fun hrd => binaryX_ends hready hx h1 h2 hrd rfl rfl, fun hrd => binaryX_ends hready hx h1 h2 hrd rfl rfl,
      ⟨_, compareExtended_unordered _ _, compareExtended_ordered, compared rfl rfl⟩,
      ⟨_, compareExtended_unordered _ _, compareExtended_ordered, compared rfl rfl⟩⟩
  case unary =>
    exact ⟨fun hrd => unaryXX_ends hready hx h2 hrd rfl rfl, fxtoi_ends hready hx h2, fxtos_ends hready hx h2,
      fxtod_ends hready hx h2⟩
  case fitox | fstox => exact fun hrd => unaryWX_ends hready hx hrd rfl rfl
  case fdtox => exact fun h2 hrd => unaryDX_ends hready hx h2 hrd rfl rfl
  case unimplemented =>
    simp only [List.mem_cons, List.not_mem_nil, or_false] at hi
    obtain rfl | rfl | rfl | rfl | rfl | rfl | rfl | rfl | rfl | rfl | rfl | rfl | rfl := hi <;>
      exact readyExtended_unimplemented hready hx rfl

end Sys2Proof.Machine
end

section
/-! Compares of singles and doubles (`45_fpop_cpop.md` R470 to R475): the numbers on one scale are integers, and their
order is the order of the values. -/

namespace Sys2Proof.Machine

open Sys2Proof

/-! ## Numbers on one scale -/

/-- The sign of a number as a factor. -/
theorem signed_cast {K : Type} [Field K] (neg : Bool) (n : Nat) : ((signed neg n : Int) : K) = (if neg then -1 else 1) * (n : K) := by
  cases neg <;> simp [signed]

/-- A number on a finer scale is an integer of its units. -/
theorem signed_mul_scale {K : Type} [Field K] [CharZero K] (neg : Bool) (m : Nat) {e low : Int} (h : low ≤ e) :
    ((signed neg (m * 2 ^ (e - low).toNat) : Int) : K) * (2 : K) ^ low = (if neg then -1 else 1) * ((m : K) * (2 : K) ^ e) := by
  have hpow : (2 : K) ^ (e - low).toNat * (2 : K) ^ low = (2 : K) ^ e := by
    rw [← zpow_natCast, ← zpow_add₀ two_ne_zero, Int.toNat_of_nonneg (by omega), Int.sub_add_cancel]
  rw [signed_cast]
  push_cast
  rw [mul_assoc, mul_assoc, hpow]

section
variable {n1 n2 : Bool} {m1 m2 : Nat} {e1 e2 : Int}

/-- A number as an integer of units of the smaller of two exponents. -/
def alignedTo (low : Int) (neg : Bool) (m : Nat) (e : Int) : Int := signed neg (m * 2 ^ (e - low).toNat)

theorem value_eq_aligned {low : Int} (neg : Bool) (m : Nat) {e : Int} (h : low ≤ e) :
    (Number.finite neg m e).value = some ((alignedTo low neg m e : ℚ) * (2 : ℚ) ^ low) :=
  congrArg some (signed_mul_scale neg m h).symm

theorem below_iff_aligned : (Number.finite n1 m1 e1).below (.finite n2 m2 e2) ↔
    alignedTo (min e1 e2) n1 m1 e1 < alignedTo (min e1 e2) n2 m2 e2 := by
  have hunit : (0 : ℚ) < (2 : ℚ) ^ min e1 e2 := by positivity
  simp only [Number.below, value_eq_aligned n1 m1 (min_le_left e1 e2), value_eq_aligned n2 m2 (min_le_right e1 e2),
    Option.some.injEq, exists_and_left, exists_eq_left', mul_lt_mul_iff_left₀ hunit, Int.cast_lt]

theorem below_iff_aligned' : (Number.finite n2 m2 e2).below (.finite n1 m1 e1) ↔
    alignedTo (min e1 e2) n2 m2 e2 < alignedTo (min e1 e2) n1 m1 e1 := by
  rw [below_iff_aligned, min_comm]

theorem equals_iff_aligned : (Number.finite n1 m1 e1).equals (.finite n2 m2 e2) ↔
    alignedTo (min e1 e2) n1 m1 e1 = alignedTo (min e1 e2) n2 m2 e2 := by
  have hunit : (2 : ℚ) ^ min e1 e2 ≠ 0 := by positivity
  simp only [Number.equals, value_eq_aligned n1 m1 (min_le_left e1 e2), value_eq_aligned n2 m2 (min_le_right e1 e2),
    Option.some.injEq, mul_left_inj' hunit, Int.cast_inj]

end

/-! ## The relation -/

/-- fcc says how two numbers are related (R470). -/
def Relates (x y : Number) (fcc : BitVec 2) : Prop :=
  x.below y ∧ fcc = 1 ∨ y.below x ∧ fcc = 2 ∨ x.equals y ∧ fcc = 0 ∨ ((∃ q, x = .nan q) ∨ ∃ q, y = .nan q) ∧ fcc = 3

theorem relates_finite (n1 n2 : Bool) (m1 m2 : Nat) (e1 e2 : Int) :
    Relates (.finite n1 m1 e1) (.finite n2 m2 e2) (compareNumbers (.finite n1 m1 e1) (.finite n2 m2 e2)) := by
  have hfcc : compareNumbers (.finite n1 m1 e1) (.finite n2 m2 e2) =
    fccOf (alignedTo (min e1 e2) n1 m1 e1) (alignedTo (min e1 e2) n2 m2 e2) := rfl
  rw [Relates, hfcc, below_iff_aligned, below_iff_aligned', equals_iff_aligned, fccOf]
  obtain hlt | heq | hgt := lt_trichotomy (alignedTo (min e1 e2) n1 m1 e1) (alignedTo (min e1 e2) n2 m2 e2)
  · exact .inl ⟨hlt, by rw [if_neg hlt.ne, if_pos hlt]; rfl⟩
  · exact .inr (.inr (.inl ⟨heq, if_pos heq⟩))
  · exact .inr (.inl ⟨hgt, by rw [if_neg hgt.ne', if_neg hgt.not_gt]; rfl⟩)

/-- The compare finds the relation; infinities are at the ends of the order. -/
theorem compareNumbers_relates (x y : Number) : Relates x y (compareNumbers x y) := by
  cases x with
  | nan a => exact .inr (.inr (.inr ⟨.inl ⟨a, rfl⟩, rfl⟩))
  | infinity a =>
    cases y with
    | nan b => exact .inr (.inr (.inr ⟨.inr ⟨b, rfl⟩, rfl⟩))
    | infinity b =>
      cases a <;> cases b
      · exact .inr (.inr (.inl ⟨rfl, rfl⟩))
      · exact .inr (.inl ⟨trivial, rfl⟩)
      · exact .inl ⟨trivial, rfl⟩
      · exact .inr (.inr (.inl ⟨rfl, rfl⟩))
    | finite n m e =>
      cases a
      · exact .inr (.inl ⟨trivial, rfl⟩)
      · exact .inl ⟨trivial, rfl⟩
  | finite n1 m1 e1 =>
    cases y with
    | nan b => exact .inr (.inr (.inr ⟨.inr ⟨b, rfl⟩, rfl⟩))
    | infinity b =>
      cases b
      · exact .inl ⟨trivial, rfl⟩
      · exact .inr (.inl ⟨trivial, rfl⟩)
    | finite n2 m2 e2 => exact relates_finite n1 n2 m1 m2 e1 e2

/-! ## The exceptions -/

theorem isSignaling_eq (x : Number) : x.isSignaling = decide (x = .nan true) := by
  cases x with
  | nan a => cases a <;> rfl
  | infinity | finite => rfl

theorem isNan_eq (x : Number) : x.isNan = (decide (x = .nan true) || decide (x = .nan false)) := by
  cases x with
  | nan a => cases a <;> rfl
  | infinity | finite => rfl

theorem compareFlags_eq (signalAll : Bool) (x y : Number) : compareFlags signalAll x y =
    if decide (x = .nan true ∨ y = .nan true) || signalAll && decide (x = .nan false ∨ y = .nan false) then 0x10 else 0 := by
  have hraised : (x.isSignaling || y.isSignaling || (signalAll && (x.isNan || y.isNan))) =
      (decide (x = .nan true ∨ y = .nan true) || signalAll && decide (x = .nan false ∨ y = .nan false)) := by
    rw [isSignaling_eq, isSignaling_eq, isNan_eq, isNan_eq, Bool.decide_or, Bool.decide_or]
    cases signalAll <;> cases decide (x = .nan true) <;> cases decide (y = .nan true) <;> simp
  rw [compareFlags, hraised]
  rfl

/-! ## The instructions -/

section
variable {s : State} {i : Instr} {rd rs1 rs2 : RegNum} {opf : BitVec 9} {signalAll : Bool}

/-- `i` ends as a compare of the numbers x and y. -/
def EndsCompare (s : State) (i : Instr) (declined : Bool) (x y : Number) (signalAll : Bool) : Prop :=
  ∃ fcc, Relates x y fcc ∧
    fpopEnds s i declined
      (if decide (x = .nan true ∨ y = .nan true) || signalAll && decide (x = .nan false ∨ y = .nan false) then 0x10 else 0) fcc
      fun t => t.f = s.f

theorem endsCompare_of {declined : Bool} {x y : Number}
    (h : exec i s = fpComplete s (encode i) declined (compareFlags signalAll x y) (writeFcc (compareNumbers x y))) :
    EndsCompare s i declined x y signalAll :=
  ⟨compareNumbers x y, compareNumbers_relates x y, compareFlags_eq signalAll x y ▸ ends_of_writeFcc h⟩

theorem compareS_ends (hready : fpuReady s) (hw : encode i = fpop2Word opf rd rs1 rs2)
    (h : exec i s = fpCompareS s opf rd rs1 rs2 signalAll) :
    EndsCompare s i ((exoticS (s.freg rs1) || exoticS (s.freg rs2)) &&
      s.declines opf ((s.freg rs1).setWidth 96) ((s.freg rs2).setWidth 96)) (numberS (s.freg rs1)) (numberS (s.freg rs2))
      signalAll :=
  endsCompare_of (by rw [h, fpCompareS, fpReady_pass hready, hw, ← leftUnfinished_words])

theorem compareD_ends (hready : fpuReady s) (h1 : rs1.toNat % 2 = 0) (h2 : rs2.toNat % 2 = 0)
    (hw : encode i = fpop2Word opf rd rs1 rs2) (h : exec i s = fpCompareD s opf rd rs1 rs2 signalAll) :
    EndsCompare s i ((exoticD (s.fdouble rs1) || exoticD (s.fdouble rs2)) &&
      s.declines opf ((s.fdouble rs1).setWidth 96) ((s.fdouble rs2).setWidth 96)) (numberD (s.fdouble rs1))
      (numberD (s.fdouble rs2)) signalAll :=
  endsCompare_of (by rw [h, fpCompareD, fpReady_pass hready, needPair_of h1, needPair_of h2, hw]; rfl)

end

/-- Settles O42. -/
theorem fpCompares : Obligations.FpCompares := by
  intro s rd rs1 rs2 hready
  exact ⟨⟨compareS_ends hready rfl rfl, compareS_ends hready rfl rfl⟩,
    fun h1 h2 => ⟨compareD_ends hready h1 h2 rfl rfl, compareD_ends hready h1 h2 rfl rfl⟩⟩

end Sys2Proof.Machine
end

section
/-! How an FPop fails (`45_fpop_cpop.md` R432, R435, R437): every FPop against the same one with every exception masked. -/

namespace Sys2Proof.Machine

open Sys2Proof

/-- s with all of TEM masked. -/
def State.masked (s : State) : State := { s with fsr := { s.fsr with tem := 0 } }

/-- The word is an FPop's: FPop1 or FPop2 (R430). -/
def IsFpopWord (w : Word) : Prop := opOf w = 2#2 ∧ (op3Of w = 0x34#6 ∨ op3Of w = 0x35#6)

/-- What an FPop writes on completion leaves the FSR but fcc, and the FPU's mode. -/
def WritesResult (write : State → State) : Prop :=
  ∀ u, (write u).fsr = { u.fsr with fcc := (write u).fsr.fcc } ∧ (write u).fpuMode = u.fpuMode

/-- The results of an FPop at s and at s with every exception masked: refused both, unimplemented both, or the end of an
FPop on the same operands, declined only where the platform lists its opf, with the same exceptions where the masked one
raises any (UFM raises underflow for more results). -/
inductive Masks (i : Instr) (s : State) : Result → Result → Prop
  | refused (x : Refusal) : Masks i s (.refused x) (.refused x)
  | unimplemented : Masks i s (.next (s.fpFail (encode i) 3)) (.next (s.masked.fpFail (encode i) 3))
  | complete {declined : Bool} {texc maskedTexc : BitVec 5} {write maskedWrite : State → State} :
      (declined = true → ∃ c ∈ s.platform.unfinished, c.opf = opfOf (encode i)) →
      (maskedTexc ≠ 0 → maskedTexc = texc) → WritesResult write → WritesResult maskedWrite →
      Masks i s (fpComplete s (encode i) declined texc write) (fpComplete s.masked (encode i) declined maskedTexc maskedWrite)

section
variable {i : Instr} {s : State} {k k' : Result} {r : RegNum} {opf : BitVec 9} {rd rs1 rs2 : RegNum}

/-! ## The writes -/

theorem writesResult_setFreg (r : RegNum) (v : Word) : WritesResult fun t => t.setFreg r v := fun _ => ⟨rfl, rfl⟩

theorem writesResult_setFdouble (r : RegNum) (v : Doubleword) : WritesResult fun t => t.setFdouble r v := fun _ => ⟨rfl, rfl⟩

theorem writesResult_setFextended (r : RegNum) (v : BitVec 96) : WritesResult fun t => t.setFextended r v :=
  fun _ => ⟨rfl, rfl⟩

theorem writesResult_writeFcc (fcc : BitVec 2) : WritesResult (writeFcc fcc) := fun _ => ⟨rfl, rfl⟩

/-! ## The checks -/

theorem masks_fpReady (hready : fpuReady s) (h : Masks i s k k') : Masks i s (fpReady s k) (fpReady s.masked k') := by
  have hmasked : fpuReady s.masked := hready
  rwa [fpReady_pass hready, fpReady_pass hmasked]

theorem masks_needPair (h : Masks i s k k') : Masks i s (needPair r k) (needPair r k') := by
  unfold needPair
  split
  · exact h
  · exact .refused _

theorem masks_needTriple (h : Masks i s k k') : Masks i s (needTriple r k) (needTriple r k') := by
  unfold needTriple
  split
  · exact h
  · exact .refused _

theorem masks_fpExtended (h : Masks i s k k') :
    Masks i s (fpExtended s (encode i) k) (fpExtended s.masked (encode i) k') := by
  have hplatform : s.masked.platform = s.platform := rfl
  rw [fpExtended, fpExtended, hplatform]
  split
  · exact h
  · exact .unimplemented

/-! ## The ends -/

theorem listed_of_declines {a b : BitVec 96} (hopf : opfOf (encode i) = opf) (h : s.declines opf a b = true) :
    ∃ c ∈ s.platform.unfinished, c.opf = opfOf (encode i) := ⟨⟨opf, a, b⟩, of_decide_eq_true h, hopf.symm⟩

/-- An FPop whose exceptions do not depend on the mask. -/
theorem masks_of_declines {exotic : Bool} {a b : BitVec 96} {texc : BitVec 5} {write : State → State}
    (hopf : opfOf (encode i) = opf) (hwrite : WritesResult write) :
    Masks i s (fpComplete s (encode i) (exotic && s.declines opf a b) texc write)
      (fpComplete s.masked (encode i) (exotic && s.masked.declines opf a b) texc write) :=
  .complete (fun h => listed_of_declines hopf (Bool.and_eq_true_iff.1 h).2) (fun _ => rfl) hwrite hwrite

/-- UFM changes the exceptions of a rounded result only where there were none: underflow for an exact tiny one. -/
theorem finish_ufm (fmt : Format) (rd : BitVec 2) (ufm : Bool) (nan : Nat) (x : Exact) :
    (fmt.finish rd false nan x).exotic = (fmt.finish rd ufm nan x).exotic ∧
    ((fmt.finish rd false nan x).flags ≠ 0 → (fmt.finish rd false nan x).flags = (fmt.finish rd ufm nan x).flags) := by
  cases x with
  | nan | infinity | zero => exact ⟨rfl, fun _ => rfl⟩
  | value neg mant exp =>
    simp only [Format.finish, Format.round]
    split
    · exact ⟨rfl, fun _ => rfl⟩
    · refine ⟨rfl, ?_⟩
      generalize (roundTo rd neg mant exp _).2 = inexact
      cases inexact
      · simp [raiseIf]
      · simp

theorem masked_ufm (s : State) : s.masked.ufm = false := by simp [State.ufm, State.masked]

theorem roundSingle_masked (s : State) (opf : BitVec 9) (a b : Doubleword) (x : Exact) :
    (s.masked.roundSingle opf a b x).exotic = (s.roundSingle opf a b x).exotic ∧
    ((s.masked.roundSingle opf a b x).flags ≠ 0 → (s.masked.roundSingle opf a b x).flags = (s.roundSingle opf a b x).flags) := by
  rw [State.roundSingle, masked_ufm]
  exact finish_ufm singleFormat s.fsr.rd s.ufm _ x

theorem roundDouble_masked (s : State) (opf : BitVec 9) (a b : Doubleword) (x : Exact) :
    (s.masked.roundDouble opf a b x).exotic = (s.roundDouble opf a b x).exotic ∧
    ((s.masked.roundDouble opf a b x).flags ≠ 0 → (s.masked.roundDouble opf a b x).flags = (s.roundDouble opf a b x).flags) := by
  rw [State.roundDouble, masked_ufm]
  exact finish_ufm doubleFormat s.fsr.rd s.ufm _ x

theorem masks_roundSingle {exotic : Bool} {a b : Doubleword} {x : Exact} (hopf : opfOf (encode i) = opf) :
    Masks i s (fpComplete s (encode i) (s.leftUnfinished (exotic || (s.roundSingle opf a b x).exotic) opf a b)
        (s.roundSingle opf a b x).flags (writeSingle rd (s.roundSingle opf a b x)))
      (fpComplete s.masked (encode i) (s.masked.leftUnfinished (exotic || (s.masked.roundSingle opf a b x).exotic) opf a b)
        (s.masked.roundSingle opf a b x).flags (writeSingle rd (s.masked.roundSingle opf a b x))) := by
  obtain ⟨hexotic, hflags⟩ := roundSingle_masked s opf a b x
  rw [hexotic]
  exact .complete (fun h => listed_of_declines hopf (Bool.and_eq_true_iff.1 h).2) hflags (writesResult_setFreg _ _)
    (writesResult_setFreg _ _)

theorem masks_roundDouble {exotic : Bool} {a b : Doubleword} {x : Exact} (hopf : opfOf (encode i) = opf) :
    Masks i s (fpComplete s (encode i) (s.leftUnfinished (exotic || (s.roundDouble opf a b x).exotic) opf a b)
        (s.roundDouble opf a b x).flags (writeDouble rd (s.roundDouble opf a b x)))
      (fpComplete s.masked (encode i) (s.masked.leftUnfinished (exotic || (s.masked.roundDouble opf a b x).exotic) opf a b)
        (s.masked.roundDouble opf a b x).flags (writeDouble rd (s.masked.roundDouble opf a b x))) := by
  obtain ⟨hexotic, hflags⟩ := roundDouble_masked s opf a b x
  rw [hexotic]
  exact .complete (fun h => listed_of_declines hopf (Bool.and_eq_true_iff.1 h).2) hflags (writesResult_setFdouble _ _)
    (writesResult_setFdouble _ _)

/-- An FPop that always finishes and rounds: a conversion of an integer. -/
theorem masks_finishes {texc maskedTexc : BitVec 5} {write maskedWrite : State → State}
    (hflags : maskedTexc ≠ 0 → maskedTexc = texc) (hwrite : WritesResult write) (hmasked : WritesResult maskedWrite) :
    Masks i s (fpComplete s (encode i) false texc write) (fpComplete s.masked (encode i) false maskedTexc maskedWrite) :=
  .complete nofun hflags hwrite hmasked

theorem masks_toExtended {a b : BitVec 96} {may : BitVec 5} (hw : encode i = fpop1Word opf rd rs1 rs2) :
    Masks i s (fpToExtended s opf rd rs1 rs2 may a b) (fpToExtended s.masked opf rd rs1 rs2 may a b) := by
  rw [fpToExtended, fpToExtended, ← hw]
  exact masks_of_declines (by rw [hw]; exact opfOf_operateWord ..) (writesResult_setFextended _ _)

/-! ## Every FPop -/

theorem exec_masks (hready : fpuReady s) (hi : IsFpopWord (encode i)) : Masks i s (exec i s) (exec i s.masked) := by
  have hopf {op3 : BitVec 6} {opf : BitVec 9} {rd rs1 rs2 : RegNum} : opfOf (operateWord op3 opf rd rs1 rs2) = opf :=
    opfOf_operateWord ..
  cases i
  case fmovs | fnegs | fabss =>
    exact masks_fpReady hready (masks_finishes (fun _ => rfl) (writesResult_setFreg _ _) (writesResult_setFreg _ _))
  case fadds | fsubs | fmuls | fdivs => exact masks_fpReady hready (masks_roundSingle hopf)
  case fsqrts => exact masks_fpReady hready (masks_roundSingle hopf)
  case faddd | fsubd | fmuld | fdivd =>
    exact masks_fpReady hready (masks_needPair (masks_needPair (masks_needPair (masks_roundDouble hopf))))
  case fsqrtd => exact masks_fpReady hready (masks_needPair (masks_needPair (masks_roundDouble hopf)))
  case fstod => exact masks_fpReady hready (masks_needPair (masks_roundDouble hopf))
  case fdtos => exact masks_fpReady hready (masks_needPair (masks_roundSingle hopf))
  case fitos =>
    exact masks_fpReady hready
      (masks_finishes (roundSingle_masked s _ _ _ _).2 (writesResult_setFreg _ _) (writesResult_setFreg _ _))
  case fitod =>
    exact masks_fpReady hready (masks_needPair
      (masks_finishes (roundDouble_masked s _ _ _ _).2 (writesResult_setFdouble _ _) (writesResult_setFdouble _ _)))
  case fstoi => exact masks_fpReady hready (masks_of_declines hopf (writesResult_setFreg _ _))
  case fdtoi => exact masks_fpReady hready (masks_needPair (masks_of_declines hopf (writesResult_setFreg _ _)))
  case fcmps | fcmpes => exact masks_fpReady hready (masks_of_declines hopf (writesResult_writeFcc _))
  case fcmpd | fcmped =>
    exact masks_fpReady hready (masks_needPair (masks_needPair (masks_of_declines hopf (writesResult_writeFcc _))))
  case faddx | fsubx | fmulx | fdivx =>
    exact masks_fpReady hready (masks_fpExtended (masks_needTriple (masks_needTriple (masks_needTriple (masks_toExtended rfl)))))
  case fsqrtx => exact masks_fpReady hready (masks_fpExtended (masks_needTriple (masks_needTriple (masks_toExtended rfl))))
  case fitox | fstox => exact masks_fpReady hready (masks_fpExtended (masks_needTriple (masks_toExtended rfl)))
  case fdtox => exact masks_fpReady hready (masks_fpExtended (masks_needPair (masks_needTriple (masks_toExtended rfl))))
  case fxtoi | fxtos =>
    exact masks_fpReady hready (masks_fpExtended (masks_needTriple (masks_of_declines hopf (writesResult_setFreg _ _))))
  case fxtod =>
    exact masks_fpReady hready
      (masks_fpExtended (masks_needTriple (masks_needPair (masks_of_declines hopf (writesResult_setFdouble _ _)))))
  case fcmpx | fcmpex =>
    exact masks_fpReady hready
      (masks_fpExtended (masks_needTriple (masks_needTriple (masks_of_declines hopf (writesResult_writeFcc _)))))
  -- the rest are no FPops
  all_goals exact absurd hi (by simp [IsFpopWord, encode, opOf_callWord])

/-! ## How it fails -/

/-- An FPop that is not declined and raises an enabled exception. -/
theorem fpComplete_enabled {w : Word} {texc : BitVec 5} {write : State → State} (h : texc &&& s.fsr.tem ≠ 0) :
    completes (fpComplete s w false texc write) (fpopFails s w 1 (s.trapCexc texc)) := by
  rw [fpComplete, if_neg Bool.false_ne_true, if_pos h]
  exact ⟨_, rfl, fpFail_effect s w 1 (s.trapCexc texc)⟩

theorem masked_completed {w : Word} {declined : Bool} {texc : BitVec 5} {write : State → State} {u : State}
    (hwrite : WritesResult write) (hu : fpComplete s.masked w declined texc write = .next u) (hmode : u.fpuMode = .execute) :
    declined = false ∧ u.fsr.cexc = texc := by
  have hnone : texc &&& s.masked.fsr.tem = 0 := BitVec.and_zero
  cases declined with
  | true =>
    obtain rfl : s.masked.fpFail w 2 = u := Host.Outcome.next.inj hu
    simp at hmode
  | false =>
    obtain rfl := Host.Outcome.next.inj ((fpComplete_of rfl hnone).symm.trans hu)
    refine ⟨rfl, ?_⟩
    rw [advanceFp_fsr, (hwrite _).1]
    rfl

/-- ftt after the end of an FPop is 2 where it is declined only. -/
theorem declined_of_ftt {w : Word} {declined : Bool} {texc : BitVec 5} {write : State → State} {t : State}
    (hwrite : WritesResult write) (ht : fpComplete s w declined texc write = .next t) (hftt : t.fsr.ftt = 2) :
    declined = true := by
  by_contra hdeclined
  rw [Bool.not_eq_true] at hdeclined
  subst hdeclined
  by_cases he : texc &&& s.fsr.tem = 0
  · obtain rfl := Host.Outcome.next.inj ((fpComplete_of rfl he).symm.trans ht)
    rw [advanceFp_fsr, (hwrite _).1] at hftt
    exact absurd hftt (by simp)
  · obtain ⟨u, hu, hfails⟩ := fpComplete_enabled (w := w) (write := write) he
    obtain rfl := Host.Outcome.next.inj (hu.symm.trans ht)
    rw [hfails.1] at hftt
    exact absurd hftt (by simp)

/-- An FPop that raises an enabled exception where nothing is masked, by what it raises where all is. -/
theorem Masks.enabled {u : State} (h : Masks i s k k') (hu : k' = .next u) (hmode : u.fpuMode = .execute)
    (henabled : u.fsr.cexc &&& s.fsr.tem ≠ 0) :
    ∃ cexc, trapCexcIs s u.fsr.cexc cexc ∧ completes k (fpopFails s (encode i) 1 cexc) := by
  cases h with
  | refused => exact nomatch hu
  | unimplemented =>
    obtain rfl := Host.Outcome.next.inj hu
    simp at hmode
  | complete hdeclined hflags hwrite hmasked =>
    obtain ⟨rfl, hcexc⟩ := masked_completed hmasked hu hmode
    rw [hcexc] at henabled ⊢
    obtain rfl := hflags fun h => henabled (by rw [h]; exact BitVec.zero_and)
    exact ⟨_, trapCexc_is s henabled, fpComplete_enabled henabled⟩

theorem Masks.declined {t : State} (h : Masks i s k k') (ht : k = .next t) (hftt : t.fsr.ftt = 2) :
    ∃ c ∈ s.platform.unfinished, c.opf = opfOf (encode i) := by
  cases h with
  | refused => exact nomatch ht
  | unimplemented =>
    obtain rfl := Host.Outcome.next.inj ht
    exact absurd hftt (by simp)
  | complete hdeclined hflags hwrite hmasked => exact hdeclined (declined_of_ftt hwrite ht hftt)

/-! ## Division by zero -/

/-- A word of zeros but for the sign is a zero. -/
theorem numberS_zero {w : Word} (h : w.toNat % 2 ^ 31 = 0) :
    (∃ neg e, numberS w = .finite neg 0 e) ∧ exoticS w = false := by
  have hfrac : w.toNat % 2 ^ 23 = 0 := by omega
  have hexp : w.toNat / 2 ^ 23 % 2 ^ 8 = 0 := by omega
  constructor
  · exact ⟨_, _, by simp only [numberS, Format.unpack, singleFormat, hfrac, hexp]; rfl⟩
  · simp only [exoticS, Format.exotic, singleFormat, hfrac, hexp]; rfl

/-- Division by zero enabled, dz is the one bit of cexc. -/
theorem trapCexc_dz (h : s.fsr.tem.getLsbD 1 = true) : dzBit &&& s.fsr.tem ≠ 0 ∧ s.trapCexc dzBit = dzBit := by
  have hbits : ∀ tem : BitVec 5, tem.getLsbD 1 = true → dzBit &&& tem = dzBit ∧ dzBit &&& ~~~tem = 0 := by decide
  obtain ⟨henabled, hdisabled⟩ := hbits s.fsr.tem h
  refine ⟨by rw [henabled]; decide, ?_⟩
  rw [State.trapCexc, henabled, hdisabled, if_pos rfl]
  rfl

theorem fdivs_by_zero (hready : fpuReady s) {neg : Bool} {mant : Nat} {exp : Int}
    (ha : numberS (s.freg rs1) = .finite neg mant exp) (hmant : mant ≠ 0) (hnormal : exoticS (s.freg rs1) = false)
    (hzero : (s.freg rs2).toNat % 2 ^ 31 = 0) (hdz : s.fsr.tem.getLsbD 1 = true) :
    completes (exec (.fdivs rd rs1 rs2) s) (fpopFails s (encode (.fdivs rd rs1 rs2)) 1 0x02) := by
  obtain ⟨⟨n, e, hb⟩, hexotic⟩ := numberS_zero hzero
  obtain ⟨henabled, hcexc⟩ := trapCexc_dz hdz
  have hquotient : exactDiv singleFormat (.finite neg mant exp) (.finite n 0 e) = .infinity (neg ^^ n) dzBit := by
    simp [exactDiv, hmant]
  dsimp only [exec, execFdivs, fpBinaryS]
  rw [fpReady_pass hready, ha, hb, hquotient, hnormal, hexotic]
  have hfails := fpComplete_enabled (w := encode (.fdivs rd rs1 rs2)) (write := writeSingle rd
    (s.roundSingle 0x04D ((s.freg rs1).setWidth 64) ((s.freg rs2).setWidth 64) (.infinity (neg ^^ n) dzBit))) henabled
  rw [hcexc] at hfails
  exact hfails

end

/-- Settles O44: each FPop is compared with itself where every exception is masked. -/
theorem fpFailures : Obligations.FpFailures :=
  ⟨fun _ _ _ hready hop hop3 hu hmode henabled => (exec_masks hready ⟨hop, hop3⟩).enabled hu hmode henabled,
    fun _ _ _ hready hop hop3 ht hftt => (exec_masks hready ⟨hop, hop3⟩).declined ht hftt,
    fun _ _ _ _ hready _ _ _ ha hmant hnormal hzero hdz => fdivs_by_zero hready ha hmant hnormal hzero hdz⟩

end Sys2Proof.Machine
end

section
/-! Conversions between singles, doubles and integers (`45_fpop_cpop.md` R458 to R466). -/

namespace Sys2Proof.Machine

open Sys2Proof

section
variable {neg n : Bool} {m : Nat} {e : Int} {opf : BitVec 9} {a : Doubleword}

/-! ## Integers as numbers of a format -/

/-- An integer is zero or at least 1: its rounding is neither tiny nor a NaN. -/
theorem finish_exactOfInt_exotic {fmt : Format} (h : fmt.minExp ≤ 0) (rd : BitVec 2) (ufm : Bool) (nan : Nat) (v : Int) :
    (fmt.finish rd ufm nan (exactOfInt v)).exotic = false := by
  unfold exactOfInt
  split
  · rfl
  · have hbig : ¬ ((v.natAbs.log2 : Int) + 0 < fmt.minExp) := by omega
    simp only [Format.finish, Format.round, hbig, decide_false]
    split <;> rfl

/-! ## The integer part of a number (R461, R462) -/

/-- The integer part of m * 2^e. -/
def wholePart (m : Nat) (e : Int) : Nat := if 0 ≤ e then m * 2 ^ e.toNat else m / 2 ^ (-e).toNat

/-- m * 2^e has a fraction. -/
def hasFraction (m : Nat) (e : Int) : Bool := decide (e < 0) && decide (m % 2 ^ (-e).toNat ≠ 0)

theorem truncated_finite (neg : Bool) (m : Nat) (e : Int) : truncated (.finite neg m e) =
    if -2 ^ 31 ≤ signed neg (wholePart m e) ∧ signed neg (wholePart m e) < 2 ^ 31 then
      some (signed neg (wholePart m e), hasFraction m e) else none := rfl

/-- A negative exponent divides. -/
theorem mul_zpow_of_neg {e : Int} (h : e < 0) (m : Nat) : (m : ℚ) * (2 : ℚ) ^ e = (m : ℚ) / ((2 ^ (-e).toNat : Nat) : ℚ) := by
  have he : e = -((-e).toNat : Int) := by omega
  conv_lhs => rw [he, zpow_neg, zpow_natCast]
  rw [div_eq_mul_inv]
  push_cast
  rfl

theorem mul_zpow_of_nonneg {e : Int} (h : 0 ≤ e) (m : Nat) : (m : ℚ) * (2 : ℚ) ^ e = ((m * 2 ^ e.toNat : Nat) : ℚ) := by
  have he : e = (e.toNat : Int) := by omega
  conv_lhs => rw [he, zpow_natCast]
  push_cast
  rfl

theorem floor_eq_wholePart (m : Nat) (e : Int) : ⌊(m : ℚ) * (2 : ℚ) ^ e⌋₊ = wholePart m e := by
  unfold wholePart
  split
  case isTrue h => rw [mul_zpow_of_nonneg h, Nat.floor_natCast]
  case isFalse h => rw [mul_zpow_of_neg (by omega), Nat.floor_div_eq_div]

theorem hasFraction_iff (m : Nat) (e : Int) : hasFraction m e = true ↔ (m : ℚ) * (2 : ℚ) ^ e ≠ wholePart m e := by
  by_cases h : e < 0
  · have hpos : ((2 ^ (-e).toNat : Nat) : ℚ) ≠ 0 := by positivity
    rw [mul_zpow_of_neg h, wholePart, if_neg (by omega), hasFraction, decide_eq_true h, Bool.true_and, decide_eq_true_iff, ne_eq,
      ne_eq, div_eq_iff hpos, not_iff_not]
    norm_cast
    constructor
    · intro hmod
      rw [Nat.div_mul_cancel (Nat.dvd_of_mod_eq_zero hmod)]
    · intro hmul
      exact Nat.mod_eq_zero_of_dvd (Dvd.intro_left _ hmul.symm)
  · rw [mul_zpow_of_nonneg (by omega), wholePart, if_pos (by omega), hasFraction, decide_eq_false h]
    simp

/-- A number written as a sign, an integer and a rest below 1. -/
structure SplitsAs (n : Bool) (m : Nat) (e : Int) (neg : Bool) (whole : Nat) (rest : ℚ) : Prop where
  rest_nonneg : 0 ≤ rest
  rest_lt : rest < 1
  value : (Number.finite n m e).value = some ((if neg then -1 else 1) * ((whole : ℚ) + rest))

theorem SplitsAs.magnitude {whole : Nat} {rest : ℚ} (h : SplitsAs n m e neg whole rest) :
    (m : ℚ) * (2 : ℚ) ^ e = whole + rest := by
  have hvalue := Option.some.inj h.value
  have hleft : (0 : ℚ) ≤ (m : ℚ) * (2 : ℚ) ^ e := by positivity
  have hright : 0 ≤ (whole : ℚ) + rest := add_nonneg whole.cast_nonneg h.rest_nonneg
  cases n <;> cases neg <;> simp at hvalue <;> linarith

theorem SplitsAs.wholePart {whole : Nat} {rest : ℚ} (h : SplitsAs n m e neg whole rest) :
    Machine.wholePart m e = whole := by
  rw [← floor_eq_wholePart, h.magnitude, Nat.floor_eq_iff (add_nonneg whole.cast_nonneg h.rest_nonneg)]
  exact ⟨by linarith [h.rest_nonneg], by linarith [h.rest_lt]⟩

theorem SplitsAs.hasFraction {whole : Nat} {rest : ℚ} (h : SplitsAs n m e neg whole rest) :
    Machine.hasFraction m e = decide (rest ≠ 0) := by
  rw [Bool.eq_iff_iff, hasFraction_iff, h.wholePart, h.magnitude, decide_eq_true_iff]
  simp

/-- The signs agree unless the number is zero. -/
theorem SplitsAs.signed {whole : Nat} {rest : ℚ} (h : SplitsAs n m e neg whole rest) :
    Machine.signed n whole = Machine.signed neg whole := by
  have hvalue := Option.some.inj h.value
  rw [h.magnitude] at hvalue
  have hwhole : n ≠ neg → whole = 0 := fun hne => by
    have hzero : (whole : ℚ) + rest = 0 := by cases n <;> cases neg <;> simp at hne hvalue <;> linarith
    exact_mod_cast le_antisymm (by linarith [h.rest_nonneg] : (whole : ℚ) ≤ 0) whole.cast_nonneg
  by_cases hne : n = neg
  · rw [hne]
  · simp [Machine.signed, hwhole hne]

/-- The range of a 32-bit integer. -/
theorem signed_in_range {whole : Nat} (h : whole < 2 ^ 31 ∨ neg = true ∧ whole = 2 ^ 31) :
    -2 ^ 31 ≤ signed neg whole ∧ signed neg whole < 2 ^ 31 := by
  cases neg <;> simp [signed] at h ⊢ <;> omega

/-- The integer part of a number where it is a 32-bit integer. -/
theorem intResult_of_splits {x : Number} {whole : Nat} {rest : ℚ} (h0 : 0 ≤ rest) (h1 : rest < 1)
    (hvalue : x.value = some ((if neg then -1 else 1) * ((whole : ℚ) + rest)))
    (hrange : whole < 2 ^ 31 ∨ neg = true ∧ whole = 2 ^ 31) :
    intResult opf a x = (BitVec.ofInt 32 (if neg then -(whole : Int) else whole), if rest = 0 then 0 else 1) := by
  cases x with
  | nan | infinity => exact nomatch hvalue
  | finite n m e =>
    have hsplit : SplitsAs n m e neg whole rest := ⟨h0, h1, hvalue⟩
    rw [intResult, truncated_finite, hsplit.wholePart, hsplit.signed, hsplit.hasFraction, if_pos (signed_in_range hrange)]
    by_cases hrest : rest = 0 <;> simp [hrest, raiseIf, nxBit, signed]

/-- A NaN, an infinity and a number outside the range have no integer (R437, log 23). -/
theorem intResult_of_invalid {x : Number}
    (h : (∃ b, x = .nan b) ∨ (∃ b, x = .infinity b) ∨ ∃ v, x.value = some v ∧ (v ≤ -2 ^ 31 - 1 ∨ 2 ^ 31 ≤ v)) :
    intResult opf a x = (Config.invalidInt opf a, 0x10) := by
  obtain ⟨b, rfl⟩ | ⟨b, rfl⟩ | ⟨v, hv, hrange⟩ := h
  · rfl
  · rfl
  cases x with
  | nan | infinity => exact nomatch hv
  | finite n m e =>
    have hmagnitude : (0 : ℚ) ≤ (m : ℚ) * (2 : ℚ) ^ e := by positivity
    have hout : ¬ (-2 ^ 31 ≤ signed n (wholePart m e) ∧ signed n (wholePart m e) < 2 ^ 31) := by
      obtain rfl := Option.some.inj hv
      cases n
      · have hfloor : 2 ^ 31 ≤ wholePart m e := by
          rw [← floor_eq_wholePart]
          refine Nat.le_floor ?_
          push_cast
          simp at hrange
          obtain h | h := hrange <;> linarith
        simp [signed]
        omega
      · have hfloor : 2 ^ 31 + 1 ≤ wholePart m e := by
          rw [← floor_eq_wholePart]
          refine Nat.le_floor ?_
          push_cast
          simp at hrange
          obtain h | h := hrange <;> linarith
        simp [signed]
        omega
    rw [intResult, truncated_finite, if_neg hout]
    rfl

end

/-! ## The instructions -/

section
variable {s : State} {i : Instr} {rd rs1 rs2 : RegNum} {opf : BitVec 9}

theorem fromIntS_ends (hready : fpuReady s) (hw : encode i = fpop1Word opf rd rs1 rs2)
    (h : exec i s = fpFromIntS s opf rd rs1 rs2) : EndsSingle s i opf rd 0 0 false (exactOfInt (s.freg rs2).toInt) := by
  have hfinishes : (s.roundSingle opf 0 0 (exactOfInt (s.freg rs2).toInt)).exotic = false :=
    finish_exactOfInt_exotic (by decide) _ _ _ _
  rw [EndsSingle, hfinishes]
  exact ends_of_setFreg (by rw [h, fpFromIntS, fpReady_pass hready, hw]; rfl)

theorem fromIntD_ends (hready : fpuReady s) (hrd : rd.toNat % 2 = 0) (hw : encode i = fpop1Word opf rd rs1 rs2)
    (h : exec i s = fpFromIntD s opf rd rs1 rs2) : EndsDouble s i opf rd 0 0 false (exactOfInt (s.freg rs2).toInt) := by
  have hfinishes : (s.roundDouble opf 0 0 (exactOfInt (s.freg rs2).toInt)).exotic = false :=
    finish_exactOfInt_exotic (by decide) _ _ _ _
  rw [EndsDouble, hfinishes]
  exact ends_of_setFdouble (by rw [h, fpFromIntD, fpReady_pass hready, needPair_of hrd, hw]; rfl)

theorem unarySD_ends {op : Number → Exact} (hready : fpuReady s) (hrd : rd.toNat % 2 = 0)
    (hw : encode i = fpop1Word opf rd rs1 rs2) (h : exec i s = fpUnarySD s opf rd rs1 rs2 op) :
    EndsDouble s i opf rd 0 ((s.freg rs2).setWidth 64) (exoticS (s.freg rs2)) (op (numberS (s.freg rs2))) :=
  ends_of_setFdouble (by rw [h, fpUnarySD, fpReady_pass hready, needPair_of hrd, hw]; rfl)

theorem unaryDS_ends {op : Number → Exact} (hready : fpuReady s) (h2 : rs2.toNat % 2 = 0)
    (hw : encode i = fpop1Word opf rd rs1 rs2) (h : exec i s = fpUnaryDS s opf rd rs1 rs2 op) :
    EndsSingle s i opf rd 0 (s.fdouble rs2) (exoticD (s.fdouble rs2)) (op (numberD (s.fdouble rs2))) :=
  ends_of_setFreg (by rw [h, fpUnaryDS, fpReady_pass hready, needPair_of h2, hw]; rfl)

/-- `i` ends as a conversion of the number x to an integer. -/
def EndsInteger (s : State) (i : Instr) (opf : BitVec 9) (rd : RegNum) (operand : Doubleword) (exotic : Bool) (x : Number) :
    Prop :=
  fpopEnds s i (s.leftUnfinished exotic opf 0 operand) (intResult opf operand x).2 s.fsr.fcc fun t =>
    writesF s t rd (intResult opf operand x).1

theorem fstoi_ends (hready : fpuReady s) : EndsInteger s (.fstoi rd rs1 rs2) 0x0D1 rd ((s.freg rs2).setWidth 64)
    (exoticS (s.freg rs2)) (numberS (s.freg rs2)) :=
  ends_of_setFreg (by dsimp only [exec, execFstoi, fpToIntS]; rw [fpReady_pass hready]; rfl)

theorem fdtoi_ends (hready : fpuReady s) (h2 : rs2.toNat % 2 = 0) : EndsInteger s (.fdtoi rd rs1 rs2) 0x0D2 rd (s.fdouble rs2)
    (exoticD (s.fdouble rs2)) (numberD (s.fdouble rs2)) :=
  ends_of_setFreg (by dsimp only [exec, execFdtoi, fpToIntD]; rw [fpReady_pass hready, needPair_of h2]; rfl)

/-- The two clauses of an integer conversion: the integer part, or the open integer. -/
theorem EndsInteger.clauses {operand : Doubleword} {exotic : Bool} {x : Number} (h : EndsInteger s i opf rd operand exotic x) :
    (∀ (neg : Bool) (whole : Nat) (rest : ℚ), 0 ≤ rest → rest < 1 →
      x.value = some ((if neg then -1 else 1) * ((whole : ℚ) + rest)) → (whole < 2 ^ 31 ∨ neg = true ∧ whole = 2 ^ 31) →
      fpopEnds s i (exotic && s.declines opf 0 (operand.setWidth 96)) (if rest = 0 then 0 else 1) s.fsr.fcc fun t =>
        writesF s t rd (BitVec.ofInt 32 (if neg then -(whole : Int) else whole))) ∧
    ((∃ b, x = .nan b) ∨ (∃ b, x = .infinity b) ∨ (∃ v, x.value = some v ∧ (v ≤ -2 ^ 31 - 1 ∨ 2 ^ 31 ≤ v)) →
      fpopEnds s i (exotic && s.declines opf 0 (operand.setWidth 96)) 0x10 s.fsr.fcc fun t =>
        writesF s t rd (Config.invalidInt opf operand)) := by
  refine ⟨fun neg whole rest h0 h1 hvalue hrange => ?_, fun hinvalid => ?_⟩
  · rw [EndsInteger, intResult_of_splits h0 h1 hvalue hrange] at h
    exact h
  · rw [EndsInteger, intResult_of_invalid hinvalid] at h
    exact h

end

/-- Settles O41: rounded conversions by `EndsSingle` and `EndsDouble`, integers by `intResult`. -/
theorem fpConversions : Obligations.FpConversions := by
  intro s rd rs1 rs2 hready
  exact ⟨fromIntS_ends hready rfl rfl, fun hrd => fromIntD_ends hready hrd rfl rfl,
    fun hrd => unarySD_ends hready hrd rfl rfl, (fstoi_ends hready).clauses,
    fun h2 => ⟨unaryDS_ends hready h2 rfl rfl, (fdtoi_ends hready h2).clauses⟩⟩

end Sys2Proof.Machine
end

section
/-! Rounding (`45_fpop_cpop.md` R431, R435, R436): a magnitude is placed between two neighbours of the format, and the
direction chooses one of them. -/

namespace Sys2Proof.Machine

open Sys2Proof

/-! ## Formats -/

/-- A format with an exponent of at least two bits and a fraction. -/
structure Format.Usable (fmt : Format) : Prop where
  expBits : 2 ≤ fmt.expBits
  fracBits : 1 ≤ fmt.fracBits

theorem usable_of {fmt : Format} (h : fmt = singleFormat ∨ fmt = doubleFormat) : fmt.Usable := by
  obtain rfl | rfl := h <;> exact ⟨by decide, by decide⟩

/-- The exponent of the last bit of a subnormal number. -/
def Format.lowest (fmt : Format) : Int := fmt.minExp - (fmt.fracBits : Int)

section
variable {fmt : Format} {rd : BitVec 2} {neg : Bool}

theorem Format.Usable.bias_pos (h : fmt.Usable) : 1 ≤ fmt.bias := by
  have hpow : 2 ^ 1 ≤ 2 ^ (fmt.expBits - 1) := Nat.pow_le_pow_right (by decide) (by have := h.expBits; omega)
  unfold Format.bias
  omega

theorem Format.Usable.maxExponent (h : fmt.Usable) : 2 ^ fmt.expBits = 2 * fmt.bias + 2 := by
  obtain ⟨n, hn⟩ : ∃ n, fmt.expBits = n + 1 := ⟨fmt.expBits - 1, by have := h.expBits; omega⟩
  have hpos : 0 < 2 ^ n := by positivity
  rw [Format.bias, hn, pow_succ, Nat.add_sub_cancel]
  omega

theorem Format.Usable.infinityBits_eq (h : fmt.Usable) : fmt.infinityBits = (2 * fmt.bias + 1) * 2 ^ fmt.fracBits := by
  rw [Format.infinityBits, h.maxExponent]
  rfl

/-! ## The direction -/

/-- Rounding of x between lo and hi goes to hi: toward the nearer, on a tie where lo is odd, or in the direction given. -/
def RoundsAway (rd : BitVec 2) (neg : Bool) (lo hi x : ℝ) (odd : Prop) : Prop :=
  match rd.toNat with
  | 0 => lo + hi < 2 * x ∨ lo + hi = 2 * x ∧ odd
  | 1 => False
  | 2 => neg = false ∧ lo ≠ x
  | _ => neg = true ∧ lo ≠ x

theorem awayFromZero_iff {x : ℝ} {low : Nat} : fmt.awayFromZero rd neg x low ↔
    RoundsAway rd neg (fmt.magnitude low) (fmt.magnitude (low + 1)) x (low % 2 = 1) := Iff.rfl

/-- The four directions. -/
theorem direction_cases (rd : BitVec 2) : rd = 0 ∨ rd = 1 ∨ rd = 2 ∨ rd = 3 := by
  revert rd
  decide

section
variable {lo hi x y : ℝ} {odd : Prop}

theorem roundsAway_nearest : RoundsAway 0 neg lo hi x odd ↔ lo + hi < 2 * x ∨ lo + hi = 2 * x ∧ odd := Iff.rfl

theorem not_roundsAway_zero : ¬ RoundsAway 1 neg lo hi x odd := id

theorem roundsAway_up : RoundsAway 2 neg lo hi x odd ↔ neg = false ∧ lo ≠ x := Iff.rfl

theorem roundsAway_down : RoundsAway 3 neg lo hi x odd ↔ neg = true ∧ lo ≠ x := Iff.rfl

/-- The direction does not depend on the unit. -/
theorem roundsAway_scale {c : ℝ} (hc : 0 < c) : RoundsAway rd neg (lo * c) (hi * c) (x * c) odd ↔ RoundsAway rd neg lo hi x odd := by
  have hne : lo * c ≠ x * c ↔ lo ≠ x := (mul_left_inj' hc.ne').not
  obtain rfl | rfl | rfl | rfl := direction_cases rd
  · rw [roundsAway_nearest, roundsAway_nearest, ← add_mul, ← mul_assoc, mul_lt_mul_iff_left₀ hc, mul_left_inj' hc.ne']
  · exact Iff.rfl
  · rw [roundsAway_up, roundsAway_up, hne]
  · rw [roundsAway_down, roundsAway_down, hne]

/-- An exact number stays. -/
theorem not_roundsAway_exact (h : lo < hi) : ¬ RoundsAway rd neg lo hi lo odd := by
  obtain rfl | rfl | rfl | rfl := direction_cases rd
  · rw [roundsAway_nearest]
    rintro (hlt | ⟨heq, -⟩) <;> linarith
  · exact id
  · exact fun hup => hup.2 rfl
  · exact fun hdown => hdown.2 rfl

/-- What goes away from the odd multiple of a unit goes away from the even one below it, in twice the unit. -/
theorem RoundsAway.halve {odd' : Prop} (h : RoundsAway rd neg (2 * lo + 1) (2 * lo + 2) x odd) (hle : 2 * lo + 1 ≤ x) :
    RoundsAway rd neg lo (lo + 1) (x / 2) odd' := by
  obtain rfl | rfl | rfl | rfl := direction_cases rd
  · rw [roundsAway_nearest] at h ⊢
    left
    obtain hlt | ⟨heq, -⟩ := h <;> linarith
  · exact h
  · exact ⟨h.1, fun heq => by linarith⟩
  · exact ⟨h.1, fun heq => by linarith⟩

/-- The model's test of the fraction cut off. -/
theorem roundsUp_iff {q rest unit : Nat} {odd : Bool} (hunit : 0 < unit) :
    roundsUp rd neg odd rest unit = true ↔ RoundsAway rd neg q (q + 1) (q + (rest : ℝ) / unit) (odd = true) := by
  have hpos : (0 : ℝ) < unit := by exact_mod_cast hunit
  have hne : (q : ℝ) ≠ q + (rest : ℝ) / unit ↔ rest ≠ 0 := by simp [hunit.ne']
  obtain rfl | rfl | rfl | rfl := direction_cases rd
  · have hlt : (q : ℝ) + (q + 1) < 2 * (q + (rest : ℝ) / unit) ↔ unit < 2 * rest := by
      rw [← @Nat.cast_lt ℝ, Nat.cast_mul, Nat.cast_ofNat, ← one_lt_div hpos, mul_div_assoc]
      constructor <;> intro h <;> linarith
    have heq : (q : ℝ) + (q + 1) = 2 * (q + (rest : ℝ) / unit) ↔ 2 * rest = unit := by
      rw [← @Nat.cast_inj ℝ, Nat.cast_mul, Nat.cast_ofNat, ← div_eq_one_iff_eq hpos.ne', mul_div_assoc]
      constructor <;> intro h <;> linarith
    rw [roundsAway_nearest, hlt, heq]
    simp [roundsUp]
  · exact iff_of_false Bool.false_ne_true not_roundsAway_zero
  · rw [roundsAway_up, hne]
    simp [roundsUp]
  · rw [roundsAway_down, hne]
    simp [roundsUp]

end

/-! ## Rounding to a unit -/

/-- r is y rounded to an integer, q the integer below. -/
structure IsRounding (rd : BitVec 2) (neg : Bool) (y : ℝ) (q : Nat) (r : Nat × Bool) : Prop where
  le : (q : ℝ) ≤ y
  lt : y < q + 1
  inexact : r.2 = true ↔ (q : ℝ) ≠ y
  away : RoundsAway rd neg q (q + 1) y (q % 2 = 1) → r.1 = q + 1
  toward : ¬ RoundsAway rd neg q (q + 1) y (q % 2 = 1) → r.1 = q

theorem roundTo_isRounding (rd : BitVec 2) (neg : Bool) (mant : Nat) (exp ulp : Int) :
    ∃ q, IsRounding rd neg ((mant : ℝ) * (2 : ℝ) ^ (exp - ulp)) q (roundTo rd neg mant exp ulp) := by
  by_cases h : ulp ≤ exp
  · have hexp : (exp - ulp) = ((exp - ulp).toNat : Int) := by omega
    have hy : (mant : ℝ) * (2 : ℝ) ^ (exp - ulp) = ((mant * 2 ^ (exp - ulp).toNat : Nat) : ℝ) := by
      rw [hexp, zpow_natCast]; push_cast; rfl
    rw [hy, roundTo, if_pos h]
    exact ⟨_, le_rfl, lt_add_one _, by simp, fun haway => absurd haway (not_roundsAway_exact (lt_add_one _)), fun _ => rfl⟩
  · have hunit : 0 < 2 ^ (ulp - exp).toNat := by positivity
    have hpos : (0 : ℝ) < ((2 ^ (ulp - exp).toNat : Nat) : ℝ) := by exact_mod_cast hunit
    have hexp : (exp - ulp) = -((ulp - exp).toNat : Int) := by omega
    rw [roundTo, if_neg h, hexp, zpow_neg, zpow_natCast, ← div_eq_mul_inv]
    generalize hu : 2 ^ (ulp - exp).toNat = unit at hunit hpos ⊢
    have hcast : (2 : ℝ) ^ (ulp - exp).toNat = unit := by rw [← hu]; push_cast; rfl
    have hy : (mant : ℝ) / unit = (mant / unit : Nat) + ((mant % unit : Nat) : ℝ) / unit := by
      rw [eq_comm, ← eq_sub_iff_add_eq', div_eq_iff hpos.ne', sub_mul, div_mul_cancel₀ _ hpos.ne', eq_sub_iff_add_eq']
      exact_mod_cast Nat.div_add_mod' mant unit
    have hrest : ((mant % unit : Nat) : ℝ) / unit < 1 := by
      rw [div_lt_one hpos]; exact_mod_cast Nat.mod_lt mant hunit
    have hup := roundsUp_iff (rd := rd) (neg := neg) (q := mant / unit) (rest := mant % unit)
      (odd := decide (mant / unit % 2 = 1)) hunit
    rw [decide_eq_true_iff] at hup
    rw [hcast, hy]
    refine ⟨mant / unit, ?_, by linarith, ?_, fun haway => if_pos (hup.2 haway), fun htoward => if_neg (htoward ∘ hup.1)⟩
    · have : (0 : ℝ) ≤ ((mant % unit : Nat) : ℝ) / unit := by positivity
      linarith
    · simp [hunit.ne']

end

/-! ## Placing a magnitude -/

/-- A power of two as a factor. -/
theorem natPow_mul_zpow (n : Nat) (e : Int) : ((2 ^ n : Nat) : ℝ) * (2 : ℝ) ^ e = (2 : ℝ) ^ ((n : Int) + e) := by
  rw [zpow_add₀ two_ne_zero, zpow_natCast]
  push_cast
  rfl

section
variable {fmt : Format} {rd : BitVec 2} {neg ufm : Bool} {x : ℝ} {K q : Nat}

/-- x lies between q and q + 1 units of the binade K: 0 for the subnormal and the smallest normal numbers. -/
structure Format.Places (fmt : Format) (x : ℝ) (K q : Nat) : Prop where
  le : (q : ℝ) * (2 : ℝ) ^ (fmt.lowest + K) ≤ x
  lt : x < ((q : ℝ) + 1) * (2 : ℝ) ^ (fmt.lowest + K)
  small : q < 2 ^ (fmt.fracBits + 1)
  normal : K = 0 ∨ 2 ^ fmt.fracBits ≤ q

/-- The magnitude of the bits of q units of the binade K. -/
theorem magnitude_eq (hsmall : q ≤ 2 ^ (fmt.fracBits + 1)) (hnormal : K = 0 ∨ 2 ^ fmt.fracBits ≤ q) :
    fmt.magnitude (K * 2 ^ fmt.fracBits + q) = (q : ℚ) * (2 : ℚ) ^ (fmt.lowest + K) := by
  have hpos : 0 < 2 ^ fmt.fracBits := by positivity
  have hexp : fmt.lowest = 1 - (fmt.bias : Int) - fmt.fracBits := rfl
  rw [pow_succ] at hsmall
  obtain hlow | hmid | htop : q < 2 ^ fmt.fracBits ∨ (2 ^ fmt.fracBits ≤ q ∧ q < 2 ^ fmt.fracBits * 2) ∨ q = 2 ^ fmt.fracBits * 2 := by
    omega
  · obtain rfl : K = 0 := hnormal.resolve_right (by omega)
    have hdiv : (0 * 2 ^ fmt.fracBits + q) / 2 ^ fmt.fracBits = 0 := by rw [zero_mul, zero_add]; exact Nat.div_eq_of_lt hlow
    have hmod : (0 * 2 ^ fmt.fracBits + q) % 2 ^ fmt.fracBits = q := by rw [zero_mul, zero_add]; exact Nat.mod_eq_of_lt hlow
    simp only [Format.magnitude, hdiv, hmod, if_true]
    rw [Format.lowest, Nat.cast_zero, add_zero]
  · obtain ⟨r, rfl⟩ := Nat.exists_eq_add_of_le hmid.1
    have hr : r < 2 ^ fmt.fracBits := by omega
    have hsplit : K * 2 ^ fmt.fracBits + (2 ^ fmt.fracBits + r) = r + 2 ^ fmt.fracBits * (K + 1) := by ring
    have hdiv : (r + 2 ^ fmt.fracBits * (K + 1)) / 2 ^ fmt.fracBits = K + 1 := by
      rw [Nat.add_mul_div_left _ _ hpos, Nat.div_eq_of_lt hr, zero_add]
    have hmod : (r + 2 ^ fmt.fracBits * (K + 1)) % 2 ^ fmt.fracBits = r := by
      rw [Nat.add_mul_mod_self_left, Nat.mod_eq_of_lt hr]
    simp only [Format.magnitude, hsplit, hdiv, hmod]
    rw [if_neg (by omega), hexp]
    congr 2
    push_cast
    ring
  · subst htop
    have hsplit : K * 2 ^ fmt.fracBits + 2 ^ fmt.fracBits * 2 = 0 + 2 ^ fmt.fracBits * (K + 2) := by ring
    have hdiv : (0 + 2 ^ fmt.fracBits * (K + 2)) / 2 ^ fmt.fracBits = K + 2 := by
      rw [Nat.add_mul_div_left _ _ hpos, Nat.zero_div, zero_add]
    have hmod : (0 + 2 ^ fmt.fracBits * (K + 2)) % 2 ^ fmt.fracBits = 0 := by rw [Nat.add_mul_mod_self_left, Nat.zero_mod]
    simp only [Format.magnitude, hsplit, hdiv, hmod]
    have hdouble : (2 : ℚ) ^ (((K + 2 : Nat) : Int) - fmt.bias - fmt.fracBits) =
        2 * (2 : ℚ) ^ (1 - (fmt.bias : Int) - fmt.fracBits + K) := by
      rw [← zpow_one_add₀ two_ne_zero]
      congr 1
      push_cast
      ring
    rw [if_neg (by omega), hexp, hdouble]
    push_cast
    ring

/-- The bits below x. -/
def Format.lowBits (fmt : Format) (K q : Nat) : Nat := K * 2 ^ fmt.fracBits + q

namespace Format.Places

theorem magnitude_low (h : fmt.Places x K q) :
    (fmt.magnitude (fmt.lowBits K q) : ℝ) = (q : ℝ) * (2 : ℝ) ^ (fmt.lowest + K) := by
  rw [Format.lowBits, magnitude_eq h.small.le h.normal]
  push_cast
  rfl

theorem magnitude_high (h : fmt.Places x K q) :
    (fmt.magnitude (fmt.lowBits K q + 1) : ℝ) = ((q : ℝ) + 1) * (2 : ℝ) ^ (fmt.lowest + K) := by
  rw [Format.lowBits, add_assoc, magnitude_eq (Nat.succ_le_of_lt h.small) (h.normal.imp_right (Nat.le_succ_of_le ·))]
  push_cast
  rfl

/-- The bits have the parity of the last bit kept. -/
theorem lowBits_parity (hfmt : fmt.Usable) : fmt.lowBits K q % 2 = q % 2 := by
  obtain ⟨n, hn⟩ : ∃ n, fmt.fracBits = n + 1 := ⟨fmt.fracBits - 1, by have := hfmt.fracBits; omega⟩
  rw [Format.lowBits, hn, pow_succ, ← mul_assoc]
  omega

theorem awayFromZero_iff_units {y : ℝ} (hfmt : fmt.Usable) (h : fmt.Places x K q) (hx : x = y * (2 : ℝ) ^ (fmt.lowest + K)) :
    fmt.awayFromZero rd neg x (fmt.lowBits K q) ↔ RoundsAway rd neg q (q + 1) y (q % 2 = 1) := by
  rw [awayFromZero_iff, h.magnitude_low, h.magnitude_high, lowBits_parity hfmt, hx]
  exact roundsAway_scale (by positivity)

/-- x is tiny exactly where its bits are those of a subnormal number or zero. -/
theorem tiny_iff (h : fmt.Places x K q) : x < (2 : ℝ) ^ fmt.minExp ↔ fmt.lowBits K q < 2 ^ fmt.fracBits := by
  have hunit : (2 : ℝ) ^ fmt.minExp = ((2 ^ fmt.fracBits : Nat) : ℝ) * (2 : ℝ) ^ fmt.lowest := by
    rw [natPow_mul_zpow, Format.lowest, add_sub_cancel]
  have hpos : (0 : ℝ) < (2 : ℝ) ^ fmt.lowest := by positivity
  rw [hunit, Format.lowBits]
  constructor
  · intro hlt
    by_contra hge
    have hq : 2 ^ fmt.fracBits ≤ q := by
      obtain rfl | hq := h.normal
      · omega
      · exact hq
    have hgrow : (2 : ℝ) ^ fmt.lowest ≤ (2 : ℝ) ^ (fmt.lowest + K) := zpow_le_zpow_right₀ one_le_two (by omega)
    have hle : ((2 ^ fmt.fracBits : Nat) : ℝ) * (2 : ℝ) ^ fmt.lowest ≤ (q : ℝ) * (2 : ℝ) ^ (fmt.lowest + K) :=
      mul_le_mul (by exact_mod_cast hq) hgrow hpos.le (by positivity)
    linarith [h.le]
  · intro hlow
    obtain rfl : K = 0 := by
      by_contra hK
      have := Nat.le_mul_of_pos_left (2 ^ fmt.fracBits) (Nat.pos_of_ne_zero hK)
      omega
    have hlt := h.lt
    rw [Nat.cast_zero, add_zero] at hlt
    refine hlt.trans_le (mul_le_mul_of_nonneg_right ?_ hpos.le)
    have : q + 1 ≤ 2 ^ fmt.fracBits := by omega
    exact_mod_cast this

/-- x is beyond the largest number of the format, and its neighbour, exactly where its bits are infinity's or more. -/
theorem beyond_iff (hfmt : fmt.Usable) (h : fmt.Places x K q) :
    (2 : ℝ) ^ (fmt.bias + 1) ≤ x ↔ fmt.infinityBits ≤ fmt.lowBits K q := by
  have hbias := hfmt.bias_pos
  have hpos : 0 < 2 ^ fmt.fracBits := by positivity
  have hsmall := h.small
  have hexp : fmt.lowest = 1 - (fmt.bias : Int) - fmt.fracBits := rfl
  have hbound : (2 : ℝ) ^ (fmt.bias + 1) = (2 : ℝ) ^ (fmt.lowest + fmt.fracBits + 2 * fmt.bias) := by
    rw [← zpow_natCast]
    congr 1
    push_cast
    omega
  rw [hfmt.infinityBits_eq, Format.lowBits]
  rw [pow_succ] at hsmall
  obtain hK | hK : 2 * fmt.bias ≤ K ∨ K + 1 ≤ 2 * fmt.bias := by omega
  · have hq : 2 ^ fmt.fracBits ≤ q := h.normal.resolve_left (by omega)
    have hbits : (2 * fmt.bias + 1) * 2 ^ fmt.fracBits ≤ K * 2 ^ fmt.fracBits + q := by
      have := Nat.mul_le_mul_right (2 ^ fmt.fracBits) hK
      rw [add_mul, one_mul]
      omega
    refine iff_of_true (le_trans ?_ h.le) hbits
    calc (2 : ℝ) ^ (fmt.bias + 1) ≤ (2 : ℝ) ^ ((fmt.fracBits : Int) + (fmt.lowest + K)) := by
          rw [hbound]; exact zpow_le_zpow_right₀ one_le_two (by omega)
      _ = ((2 ^ fmt.fracBits : Nat) : ℝ) * (2 : ℝ) ^ (fmt.lowest + K) := by
          rw [natPow_mul_zpow]
      _ ≤ (q : ℝ) * (2 : ℝ) ^ (fmt.lowest + K) :=
          mul_le_mul_of_nonneg_right (by exact_mod_cast hq) (by positivity)
  · have hbits : K * 2 ^ fmt.fracBits + q < (2 * fmt.bias + 1) * 2 ^ fmt.fracBits := by
      have := Nat.mul_le_mul_right (2 ^ fmt.fracBits) hK
      rw [add_mul, one_mul] at this ⊢
      omega
    refine iff_of_false (not_le.2 (h.lt.trans_le ?_)) (not_le.2 hbits)
    have hq : q + 1 ≤ 2 ^ (fmt.fracBits + 1) := h.small
    calc ((q : ℝ) + 1) * (2 : ℝ) ^ (fmt.lowest + K) ≤ ((2 ^ (fmt.fracBits + 1) : Nat) : ℝ) * (2 : ℝ) ^ (fmt.lowest + K) :=
          mul_le_mul_of_nonneg_right (by exact_mod_cast hq) (by positivity)
      _ = (2 : ℝ) ^ (((fmt.fracBits + 1 : Nat) : Int) + (fmt.lowest + K)) := by
          rw [natPow_mul_zpow]
      _ ≤ (2 : ℝ) ^ (fmt.bias + 1) := by
          rw [hbound]; exact zpow_le_zpow_right₀ one_le_two (by push_cast; omega)

end Format.Places

end

end Sys2Proof.Machine
end

section
/-! `Format.round` is the rounding of `45_fpop_cpop.md` R431, R435, R436. -/

namespace Sys2Proof.Machine

open Sys2Proof

section
variable {fmt : Format} {rd : BitVec 2} {neg ufm : Bool} {mant : Nat} {exp : Int}

/-! ## The first bit of a magnitude -/

/-- The weight of the first bit of mant * 2^exp. -/
def topBit (mant : Nat) (exp : Int) : Int := (mant.log2 : Int) + exp

theorem zpow_topBit_le (hm : mant ≠ 0) : (2 : ℝ) ^ topBit mant exp ≤ (mant : ℝ) * (2 : ℝ) ^ exp := by
  rw [topBit, ← natPow_mul_zpow]
  exact mul_le_mul_of_nonneg_right (by exact_mod_cast Nat.log2_self_le hm) (by positivity)

theorem lt_zpow_topBit_succ : (mant : ℝ) * (2 : ℝ) ^ exp < (2 : ℝ) ^ (topBit mant exp + 1) := by
  have hexp : topBit mant exp + 1 = ((mant.log2 + 1 : Nat) : Int) + exp := by rw [topBit]; push_cast; ring
  rw [hexp, ← natPow_mul_zpow]
  exact mul_lt_mul_of_pos_right (by exact_mod_cast Nat.lt_log2_self) (by positivity)

theorem lt_zpow_iff_topBit_lt (hm : mant ≠ 0) (k : Int) : (mant : ℝ) * (2 : ℝ) ^ exp < (2 : ℝ) ^ k ↔ topBit mant exp < k := by
  constructor
  · intro h
    exact (zpow_lt_zpow_iff_right₀ one_lt_two).1 ((zpow_topBit_le hm).trans_lt h)
  · intro h
    exact lt_zpow_topBit_succ.trans_le (zpow_le_zpow_right₀ one_le_two h)

/-- The binade of a magnitude whose first bit has this weight, 0 below the smallest normal number. -/
def Format.binade (fmt : Format) (top : Int) : Nat := (top - fmt.minExp).toNat

/-- A magnitude rounded to the unit of its binade is placed there. -/
theorem places_of_isRounding {q : Nat} {r : Nat × Bool} (hm : mant ≠ 0) (h : IsRounding rd neg
    ((mant : ℝ) * (2 : ℝ) ^ (exp - (fmt.lowest + fmt.binade (topBit mant exp)))) q r) :
    fmt.Places ((mant : ℝ) * (2 : ℝ) ^ exp) (fmt.binade (topBit mant exp)) q := by
  have hK : fmt.binade (topBit mant exp) = (topBit mant exp - fmt.minExp).toNat := rfl
  have hlowest : fmt.lowest = fmt.minExp - fmt.fracBits := rfl
  generalize fmt.binade (topBit mant exp) = K at h hK ⊢
  have hpos : (0 : ℝ) < (2 : ℝ) ^ (fmt.lowest + K) := by positivity
  have hx : (mant : ℝ) * (2 : ℝ) ^ exp = (mant : ℝ) * (2 : ℝ) ^ (exp - (fmt.lowest + K)) * (2 : ℝ) ^ (fmt.lowest + K) := by
    rw [mul_assoc, ← zpow_add₀ two_ne_zero, sub_add_cancel]
  have hle : (q : ℝ) * (2 : ℝ) ^ (fmt.lowest + K) ≤ (mant : ℝ) * (2 : ℝ) ^ exp := by
    rw [hx]; exact mul_le_mul_of_nonneg_right h.le hpos.le
  have hlt : (mant : ℝ) * (2 : ℝ) ^ exp < ((q : ℝ) + 1) * (2 : ℝ) ^ (fmt.lowest + K) := by
    rw [hx]; exact mul_lt_mul_of_pos_right h.lt hpos
  refine ⟨hle, hlt, ?_, ?_⟩
  · have hbound : (2 : ℝ) ^ (topBit mant exp + 1) ≤ ((2 ^ (fmt.fracBits + 1) : Nat) : ℝ) * (2 : ℝ) ^ (fmt.lowest + K) := by
      rw [natPow_mul_zpow]
      exact zpow_le_zpow_right₀ one_le_two (by push_cast; omega)
    have hq := lt_of_mul_lt_mul_right (hle.trans_lt (lt_zpow_topBit_succ.trans_le hbound)) hpos.le
    exact_mod_cast hq
  · by_cases hnormal : topBit mant exp ≤ fmt.minExp
    · exact .inl (by omega)
    · have htop : topBit mant exp = fmt.fracBits + (fmt.lowest + K) := by omega
      have hbound := (zpow_topBit_le hm).trans_lt hlt
      rw [htop, ← natPow_mul_zpow] at hbound
      have hq := lt_of_mul_lt_mul_right hbound hpos.le
      exact .inr (Nat.le_of_lt_succ (by exact_mod_cast hq))

/-! ## Tininess after rounding (log 24) -/

/-- Tininess is detected: before rounding where the model's constant says so, else after rounding with an unbounded
exponent. -/
def Format.detectsTiny (fmt : Format) (rd : BitVec 2) (neg : Bool) (mant : Nat) (exp : Int) : Bool :=
  decide (topBit mant exp < fmt.minExp) &&
      !(decide (topBit mant exp + 1 = fmt.minExp) &&
        decide ((roundTo rd neg mant exp (topBit mant exp - fmt.fracBits)).1 = 2 ^ (fmt.fracBits + 1))) ||
    decide (topBit mant exp < fmt.minExp) && Config.tininessBefore

/-- What rounds up to the smallest normal number with an unbounded exponent does so with the exponent of a subnormal. -/
theorem rounds_to_normal {q : Nat} {r : Nat × Bool} (htop : topBit mant exp + 1 = fmt.minExp)
    (hunbounded : (roundTo rd neg mant exp (topBit mant exp - fmt.fracBits)).1 = 2 ^ (fmt.fracBits + 1))
    (h : IsRounding rd neg ((mant : ℝ) * (2 : ℝ) ^ (exp - fmt.lowest)) q r) : r.1 = 2 ^ fmt.fracBits := by
  obtain ⟨p, hp⟩ := roundTo_isRounding rd neg mant exp (topBit mant exp - fmt.fracBits)
  have hlowest : fmt.lowest = topBit mant exp - fmt.fracBits + 1 := by rw [Format.lowest]; omega
  have hdouble : (mant : ℝ) * (2 : ℝ) ^ (exp - fmt.lowest) =
      (mant : ℝ) * (2 : ℝ) ^ (exp - (topBit mant exp - fmt.fracBits)) / 2 := by
    rw [hlowest, ← sub_sub, zpow_sub_one₀ two_ne_zero, ← mul_assoc, div_eq_mul_inv]
  rw [hdouble] at h
  have hbound : (mant : ℝ) * (2 : ℝ) ^ (exp - (topBit mant exp - fmt.fracBits)) < ((2 ^ (fmt.fracBits + 1) : Nat) : ℝ) := by
    have hlt := lt_zpow_topBit_succ (mant := mant) (exp := exp - (topBit mant exp - fmt.fracBits))
    have hpow : topBit mant (exp - (topBit mant exp - fmt.fracBits)) + 1 = ((fmt.fracBits + 1 : Nat) : Int) := by
      simp only [topBit]; push_cast; ring
    rw [hpow, zpow_natCast] at hlt
    exact_mod_cast hlt
  generalize (mant : ℝ) * (2 : ℝ) ^ (exp - (topBit mant exp - fmt.fracBits)) = y at hp h hbound
  have hplt : p < 2 ^ (fmt.fracBits + 1) := by exact_mod_cast hp.le.trans_lt hbound
  have haway : RoundsAway rd neg p (p + 1) y (p % 2 = 1) := by
    by_contra htoward
    have := hp.toward htoward
    omega
  have hlast := hp.away haway
  rw [pow_succ] at hplt hunbounded hbound
  -- p is the odd number 2 * q + 1
  have hq : p = 2 * q + 1 := by
    have hlow : (q : ℝ) ≤ y / 2 := h.le
    have hhigh : y / 2 < q + 1 := h.lt
    have hple : (p : ℝ) ≤ y := hp.le
    have h1 : q < 2 ^ fmt.fracBits := by
      have : (q : ℝ) < ((2 ^ fmt.fracBits : Nat) : ℝ) := by push_cast at hbound ⊢; linarith
      exact_mod_cast this
    have h2 : p < 2 * q + 2 := by
      have : (p : ℝ) < 2 * (q : ℝ) + 2 := by linarith
      exact_mod_cast this
    omega
  have hcast : (p : ℝ) = 2 * (q : ℝ) + 1 := by rw [hq]; push_cast; rfl
  have hple := hp.le
  rw [hcast, add_assoc, one_add_one_eq_two] at haway
  rw [hcast] at hple
  have := h.away (haway.halve hple)
  omega

/-! ## The result -/

/-- The result of a magnitude rounded in the binade K. -/
def Format.result (fmt : Format) (rd : BitVec 2) (ufm neg tinyBefore tiny : Bool) (K : Nat) (kept : Nat × Bool) : Rounded :=
  if fmt.infinityBits ≤ fmt.lowBits K kept.1 then ⟨fmt.signBit neg + fmt.overflowBits rd neg, ofBit ||| nxBit, false⟩
  else
    ⟨fmt.signBit neg + fmt.lowBits K kept.1, raiseIf (tiny && (kept.2 || ufm)) ufBit ||| raiseIf kept.2 nxBit, tinyBefore⟩

theorem round_eq : fmt.round rd ufm neg mant exp =
    fmt.result rd ufm neg (decide (topBit mant exp < fmt.minExp)) (fmt.detectsTiny rd neg mant exp)
      (fmt.binade (topBit mant exp)) (roundTo rd neg mant exp (fmt.lowest + fmt.binade (topBit mant exp))) := by
  have hunit : fmt.lowest + fmt.binade (topBit mant exp) = max (topBit mant exp - (fmt.fracBits : Int)) fmt.lowest := by
    rw [Format.binade, Format.lowest]; omega
  have hbinade : fmt.binade (topBit mant exp) =
      (max (topBit mant exp - (fmt.fracBits : Int)) fmt.lowest - fmt.lowest).toNat := by omega
  rw [hunit, hbinade]
  rfl

theorem overflowBits_eq (rd : BitVec 2) (neg : Bool) : fmt.overflowBits rd neg =
    if rd = 1 ∨ rd = 2 ∧ neg = true ∨ rd = 3 ∧ neg = false then fmt.infinityBits - 1 else fmt.infinityBits := by
  obtain rfl | rfl | rfl | rfl := direction_cases rd <;> cases neg <;> rfl

/-- Where rounding goes away from zero an overflow gives infinity. -/
theorem overflowBits_of_roundsAway {lo hi x : ℝ} {odd : Prop} (h : RoundsAway rd neg lo hi x odd) :
    fmt.overflowBits rd neg = fmt.infinityBits := by
  obtain rfl | rfl | rfl | rfl := direction_cases rd
  · rfl
  · exact h.elim
  · rw [h.1]; rfl
  · rw [h.1]; rfl

/-- What goes away is inexact. -/
theorem RoundsAway.inexact {lo hi x : ℝ} {odd : Prop} (h : RoundsAway rd neg lo hi x odd) (hlt : lo < hi) : lo ≠ x := by
  rintro rfl
  exact not_roundsAway_exact hlt h

/-- The five flags of a rounded result. -/
theorem flags_bits (uf nx : Bool) :
    (raiseIf uf ufBit ||| raiseIf nx nxBit).getLsbD 0 = nx ∧ (raiseIf uf ufBit ||| raiseIf nx nxBit).getLsbD 1 = false ∧
    (raiseIf uf ufBit ||| raiseIf nx nxBit).getLsbD 2 = uf ∧ (raiseIf uf ufBit ||| raiseIf nx nxBit).getLsbD 3 = false ∧
    (raiseIf uf ufBit ||| raiseIf nx nxBit).getLsbD 4 = false := by
  revert uf nx
  decide

theorem overflow_bits : (ofBit ||| nxBit).getLsbD 0 = true ∧ (ofBit ||| nxBit).getLsbD 1 = false ∧
    (ofBit ||| nxBit).getLsbD 2 = false ∧ (ofBit ||| nxBit).getLsbD 3 = true ∧ (ofBit ||| nxBit).getLsbD 4 = false := by decide

theorem Format.Usable.lt_infinityBits (hfmt : fmt.Usable) : 2 ^ fmt.fracBits + 1 < fmt.infinityBits := by
  have hpos : 0 < 2 ^ fmt.fracBits := by positivity
  have := Nat.mul_le_mul_right (2 ^ fmt.fracBits) hfmt.bias_pos
  rw [hfmt.infinityBits_eq, add_mul, mul_assoc]
  omega

section
variable {x y : ℝ} {K q : Nat} {kept : Nat × Bool} {tinyBefore tiny : Bool}

theorem lowBits_of_away (h : IsRounding rd neg y q kept) (haway : RoundsAway rd neg q (q + 1) y (q % 2 = 1)) :
    fmt.lowBits K kept.1 = fmt.lowBits K q + 1 := by rw [h.away haway]; rfl

theorem lowBits_of_toward (h : IsRounding rd neg y q kept) (htoward : ¬ RoundsAway rd neg q (q + 1) y (q % 2 = 1)) :
    fmt.lowBits K kept.1 = fmt.lowBits K q := by rw [h.toward htoward]

/-- nx is the inexactness of the bits. -/
theorem inexact_iff_magnitude (hplaces : fmt.Places x K q) (hx : x = y * (2 : ℝ) ^ (fmt.lowest + K))
    (h : IsRounding rd neg y q kept) : kept.2 = true ↔ (fmt.magnitude (fmt.lowBits K q) : ℝ) ≠ x := by
  have hunit : (2 : ℝ) ^ (fmt.lowest + K) ≠ 0 := by positivity
  rw [h.inexact, hplaces.magnitude_low, hx]
  exact (mul_left_inj' hunit).not.symm

theorem result_of_overflow (hfmt : fmt.Usable) (hplaces : fmt.Places x K q) (hx : x = y * (2 : ℝ) ^ (fmt.lowest + K))
    (h : IsRounding rd neg y q kept) (hover : fmt.infinityBits ≤ fmt.lowBits K kept.1) :
    fmt.rounds rd ufm neg x ⟨fmt.signBit neg + fmt.overflowBits rd neg, ofBit ||| nxBit, false⟩ := by
  have hbig := hfmt.lt_infinityBits
  by_cases hbeyond : (2 : ℝ) ^ (fmt.bias + 1) ≤ x
  · have hbits := (hplaces.beyond_iff hfmt).1 hbeyond
    have hnotTiny : ¬ x < (2 : ℝ) ^ fmt.minExp := fun ht => by
      have := hplaces.tiny_iff.1 ht
      omega
    exact ⟨iff_of_false Bool.false_ne_true hnotTiny, fun _ => ⟨rfl, by rw [overflowBits_eq]⟩, fun hlt => absurd hbeyond (not_le.2 hlt)⟩
  · have hlow : fmt.lowBits K q < fmt.infinityBits := not_le.1 fun hle => hbeyond ((hplaces.beyond_iff hfmt).2 hle)
    have haway : RoundsAway rd neg q (q + 1) y (q % 2 = 1) := by
      by_contra htoward
      rw [lowBits_of_toward h htoward] at hover
      omega
    rw [lowBits_of_away h haway] at hover
    have hnotTiny : ¬ x < (2 : ℝ) ^ fmt.minExp := fun ht => by
      have := hplaces.tiny_iff.1 ht
      omega
    have hdirection := (Format.Places.awayFromZero_iff_units (rd := rd) (neg := neg) hfmt hplaces hx).2 haway
    obtain ⟨hbit0, hbit1, hbit2, hbit3, hbit4⟩ := overflow_bits
    refine ⟨iff_of_false Bool.false_ne_true hnotTiny, fun hle => absurd hle hbeyond,
      fun _ => ⟨fmt.lowBits K q, fmt.infinityBits, hlow, ?_, ?_, ?_, fun _ => by omega, fun hnot => absurd hdirection hnot,
        ?_, hbit1, fun huf => absurd (hbit2.symm.trans huf) Bool.false_ne_true, fun ht => absurd ht hnotTiny,
        iff_of_true hbit3 rfl, hbit4⟩⟩
    · rw [hplaces.magnitude_low]; exact hplaces.le
    · rw [hplaces.magnitude_high]; exact hplaces.lt
    · rw [overflowBits_of_roundsAway haway]
    · exact iff_of_true hbit0 ((inexact_iff_magnitude hplaces hx h).1 (h.inexact.2 (haway.inexact (lt_add_one _))))

theorem result_of_finite (hfmt : fmt.Usable) (hplaces : fmt.Places x K q) (hx : x = y * (2 : ℝ) ^ (fmt.lowest + K))
    (h : IsRounding rd neg y q kept) (hfinite : fmt.lowBits K kept.1 < fmt.infinityBits)
    (hbefore : tinyBefore = true ↔ x < (2 : ℝ) ^ fmt.minExp) (htiny : tiny = true → x < (2 : ℝ) ^ fmt.minExp)
    (hdetected : x < (2 : ℝ) ^ fmt.minExp → Config.tininessBefore = true ∨ fmt.lowBits K kept.1 < 2 ^ fmt.fracBits → tiny = true) :
    fmt.rounds rd ufm neg x ⟨fmt.signBit neg + fmt.lowBits K kept.1,
      raiseIf (tiny && (kept.2 || ufm)) ufBit ||| raiseIf kept.2 nxBit, tinyBefore⟩ := by
  obtain ⟨hbit0, hbit1, hbit2, hbit3, hbit4⟩ := flags_bits (tiny && (kept.2 || ufm)) kept.2
  have hdirection := Format.Places.awayFromZero_iff_units (rd := rd) (neg := neg) hfmt hplaces hx
  have hinexact := inexact_iff_magnitude hplaces hx h
  have hle : fmt.lowBits K q ≤ fmt.lowBits K kept.1 := by
    by_cases haway : RoundsAway rd neg q (q + 1) y (q % 2 = 1)
    · rw [lowBits_of_away h haway]; exact Nat.le_succ _
    · rw [lowBits_of_toward h haway]
  have hlow : fmt.lowBits K q < fmt.infinityBits := hle.trans_lt hfinite
  refine ⟨hbefore, fun hbeyond => absurd ((hplaces.beyond_iff hfmt).1 hbeyond) (not_le.2 hlow),
    fun _ => ⟨fmt.lowBits K q, fmt.lowBits K kept.1, hlow, ?_, ?_, rfl, fun haway => lowBits_of_away h (hdirection.1 haway),
      fun htoward => lowBits_of_toward h (fun haway => htoward (hdirection.2 haway)), ?_, hbit1, ?_, ?_, ?_, hbit4⟩⟩
  · rw [hplaces.magnitude_low]; exact hplaces.le
  · rw [hplaces.magnitude_high]; exact hplaces.lt
  · rw [hbit0]; exact hinexact
  · rw [hbit2, Bool.and_eq_true, Bool.or_eq_true, hinexact]
    exact fun ⟨ht, hcause⟩ => ⟨htiny ht, hcause.symm⟩
  · rw [hbit2, Bool.and_eq_true, Bool.or_eq_true, hinexact]
    exact fun ht hcause hwhen => ⟨hdetected ht hwhen, hcause.symm⟩
  · rw [hbit3]
    exact iff_of_false Bool.false_ne_true hfinite.ne

end

theorem detectsTiny_iff : fmt.detectsTiny rd neg mant exp = true ↔ topBit mant exp < fmt.minExp ∧
    (¬ (topBit mant exp + 1 = fmt.minExp ∧
      (roundTo rd neg mant exp (topBit mant exp - fmt.fracBits)).1 = 2 ^ (fmt.fracBits + 1)) ∨ Config.tininessBefore = true) := by
  simp only [Format.detectsTiny, Bool.or_eq_true, Bool.and_eq_true, Bool.not_eq_true', decide_eq_true_iff, ← Bool.not_eq_true]
  tauto

/-- The model rounds as `Format.rounds` says. -/
theorem round_rounds (hfmt : fmt.Usable) (hm : mant ≠ 0) :
    fmt.rounds rd ufm neg ((mant : ℝ) * (2 : ℝ) ^ exp) (fmt.round rd ufm neg mant exp) := by
  obtain ⟨q, hkept⟩ := roundTo_isRounding rd neg mant exp (fmt.lowest + fmt.binade (topBit mant exp))
  have hplaces := places_of_isRounding hm hkept
  have hx : (mant : ℝ) * (2 : ℝ) ^ exp = (mant : ℝ) * (2 : ℝ) ^ (exp - (fmt.lowest + fmt.binade (topBit mant exp))) *
      (2 : ℝ) ^ (fmt.lowest + fmt.binade (topBit mant exp)) := by
    rw [mul_assoc, ← zpow_add₀ two_ne_zero, sub_add_cancel]
  have htop := lt_zpow_iff_topBit_lt (exp := exp) hm fmt.minExp
  rw [round_eq, Format.result]
  split
  case isTrue hover => exact result_of_overflow hfmt hplaces hx hkept hover
  case isFalse hfinite =>
    refine result_of_finite hfmt hplaces hx hkept (not_le.1 hfinite) (decide_eq_true_iff.trans htop.symm)
      (fun ht => htop.2 (detectsTiny_iff.1 ht).1) fun ht hwhen => detectsTiny_iff.2 ⟨htop.1 ht, hwhen.symm.imp_left fun hsub => ?_⟩
    rintro ⟨hnext, hunbounded⟩
    have hzero : fmt.binade (topBit mant exp) = 0 := by rw [Format.binade]; omega
    rw [hzero, Nat.cast_zero, add_zero] at hkept hsub
    rw [Format.lowBits, rounds_to_normal hnext hunbounded hkept] at hsub
    omega

end

/-- Settles O49. -/
theorem roundingIsCorrect : Obligations.RoundingIsCorrect := fun _ _ _ _ _ _ hfmt hm => round_rounds (usable_of hfmt) hm

end Sys2Proof.Machine
end

section
/-! Exact results (`45_fpop_cpop.md` R431, R436): what bits stand for, and each operation as the real result rounded once.
A quotient and a root keep one bit for what they cut off; it lies below every bit that rounding looks at. -/

namespace Sys2Proof.Machine

open Sys2Proof

section
variable {fmt : Format} {rd : BitVec 2} {ufm neg negZero : Bool} {nan : Nat}

/-! ## What bits stand for (R431) -/

/-- The fields of bits with a sign, in those without. -/
theorem fields_of_magnitude (fmt : Format) (bits : Nat) :
    bits / 2 ^ fmt.fracBits % 2 ^ fmt.expBits = bits % 2 ^ (fmt.expBits + fmt.fracBits) / 2 ^ fmt.fracBits ∧
    bits % 2 ^ fmt.fracBits = bits % 2 ^ (fmt.expBits + fmt.fracBits) % 2 ^ fmt.fracBits := by
  constructor
  · rw [Nat.add_comm, pow_add, Nat.mod_mul_right_div_self]
  · rw [Nat.mod_mod_of_dvd _ (pow_dvd_pow 2 (Nat.le_add_left _ _))]

theorem testBit_sign {n bits : Nat} (h : bits < 2 ^ (n + 1)) : bits.testBit n = decide (2 ^ n ≤ bits) := by
  rw [pow_succ] at h
  rw [Nat.testBit_eq_decide_div_mod_eq]
  have hpos : 0 < 2 ^ n := by positivity
  obtain hlt | hge := Nat.lt_or_ge bits (2 ^ n)
  · rw [Nat.div_eq_of_lt hlt, decide_eq_false (not_le.2 hlt)]
    rfl
  · have hdiv : bits / 2 ^ n = 1 := Nat.div_eq_of_lt_le (by omega) (by omega)
    rw [hdiv, decide_eq_true hge]
    rfl

theorem unpack_eq {bits : Nat} (hbits : bits < 2 ^ (fmt.expBits + fmt.fracBits + 1)) :
    fmt.unpack bits =
      let m := bits % 2 ^ (fmt.expBits + fmt.fracBits)
      let neg : Bool := decide (2 ^ (fmt.expBits + fmt.fracBits) ≤ bits)
      if m / 2 ^ fmt.fracBits = 2 ^ fmt.expBits - 1 then
        if m % 2 ^ fmt.fracBits = 0 then .infinity neg
        else .nan (decide (m % 2 ^ fmt.fracBits < 2 ^ (fmt.fracBits - 1)))
      else if m / 2 ^ fmt.fracBits = 0 then .finite neg (m % 2 ^ fmt.fracBits) (fmt.minExp - (fmt.fracBits : Int))
      else .finite neg (2 ^ fmt.fracBits + m % 2 ^ fmt.fracBits)
        (((m / 2 ^ fmt.fracBits : Nat) : Int) - (fmt.bias : Int) - (fmt.fracBits : Int)) := by
  obtain ⟨hexp, hfrac⟩ := fields_of_magnitude fmt bits
  simp only [Format.unpack, hexp, hfrac, testBit_sign hbits]

theorem unpack_finite {bits : Nat} (hbits : bits < 2 ^ (fmt.expBits + fmt.fracBits + 1))
    (hm : bits % 2 ^ (fmt.expBits + fmt.fracBits) < fmt.infinityBits) :
    ∃ mant exp, fmt.unpack bits = .finite (decide (2 ^ (fmt.expBits + fmt.fracBits) ≤ bits)) mant exp ∧
      (mant : ℚ) * (2 : ℚ) ^ exp = fmt.magnitude (bits % 2 ^ (fmt.expBits + fmt.fracBits)) := by
  rw [unpack_eq hbits]
  generalize bits % 2 ^ (fmt.expBits + fmt.fracBits) = m at hm ⊢
  have hexp : m / 2 ^ fmt.fracBits ≠ 2 ^ fmt.expBits - 1 := fun he => by
    have := Nat.div_mul_le_self m (2 ^ fmt.fracBits)
    rw [he] at this
    exact absurd hm (not_lt.2 this)
  simp only [hexp, if_false, Format.magnitude]
  by_cases hzero : m / 2 ^ fmt.fracBits = 0
  · rw [if_pos hzero, if_pos hzero]
    exact ⟨_, _, rfl, rfl⟩
  · rw [if_neg hzero, if_neg hzero]
    exact ⟨_, _, rfl, rfl⟩

/-- Bits from infinity's on: the exponent is all ones, and the fraction is what is beyond. -/
theorem unpack_special {bits : Nat} (hbits : bits < 2 ^ (fmt.expBits + fmt.fracBits + 1))
    (hm : fmt.infinityBits ≤ bits % 2 ^ (fmt.expBits + fmt.fracBits)) :
    fmt.unpack bits =
      if bits % 2 ^ (fmt.expBits + fmt.fracBits) = fmt.infinityBits then
        .infinity (decide (2 ^ (fmt.expBits + fmt.fracBits) ≤ bits))
      else .nan (decide (bits % 2 ^ (fmt.expBits + fmt.fracBits) < fmt.infinityBits + 2 ^ (fmt.fracBits - 1))) := by
  rw [unpack_eq hbits]
  have hlt : bits % 2 ^ (fmt.expBits + fmt.fracBits) < 2 ^ (fmt.expBits + fmt.fracBits) := Nat.mod_lt _ (by positivity)
  generalize bits % 2 ^ (fmt.expBits + fmt.fracBits) = m at hm hlt ⊢
  obtain ⟨frac, rfl⟩ := Nat.exists_eq_add_of_le hm
  have hpos : 0 < 2 ^ fmt.fracBits := by positivity
  have hexps : 2 ^ fmt.expBits - 1 + 1 = 2 ^ fmt.expBits := Nat.sub_add_cancel (Nat.one_le_two_pow)
  have hfrac : frac < 2 ^ fmt.fracBits := by
    rw [pow_add, ← hexps, add_mul, one_mul, Format.infinityBits] at hlt
    omega
  have hdiv : (fmt.infinityBits + frac) / 2 ^ fmt.fracBits = 2 ^ fmt.expBits - 1 := by
    rw [Format.infinityBits, Nat.mul_comm, Nat.mul_add_div hpos, Nat.div_eq_of_lt hfrac, add_zero]
  have hmod : (fmt.infinityBits + frac) % 2 ^ fmt.fracBits = frac := by
    rw [Format.infinityBits, Nat.mul_add_mod', Nat.mod_eq_of_lt hfrac]
  simp only [hdiv, hmod, if_true, Nat.add_lt_add_iff_left, Nat.add_eq_left]

/-! ## A magnitude in a cell of a grid -/

/-- x and v lie alike to the multiples of 2^e: on the same one, or between the same two. -/
def SameCell (e : Int) (x v : ℝ) : Prop :=
  ∀ k : Nat, ((k : ℝ) * (2 : ℝ) ^ e < x ↔ (k : ℝ) * (2 : ℝ) ^ e < v) ∧ ((k : ℝ) * (2 : ℝ) ^ e ≤ x ↔ (k : ℝ) * (2 : ℝ) ^ e ≤ v)

namespace SameCell
variable {e : Int} {x v : ℝ}

theorem lt_iff (h : SameCell e x v) (k : Nat) : x < (k : ℝ) * (2 : ℝ) ^ e ↔ v < (k : ℝ) * (2 : ℝ) ^ e := by
  rw [← not_le, ← not_le, (h k).2]

theorem eq_iff (h : SameCell e x v) (k : Nat) : (k : ℝ) * (2 : ℝ) ^ e = x ↔ (k : ℝ) * (2 : ℝ) ^ e = v := by
  have hge : x ≤ (k : ℝ) * (2 : ℝ) ^ e ↔ v ≤ (k : ℝ) * (2 : ℝ) ^ e := by rw [← not_lt, ← not_lt, (h k).1]
  rw [le_antisymm_iff, le_antisymm_iff, (h k).2, hge]

/-- A power of two, where neither is below the unit: it is a multiple of the unit, or below both. -/
theorem lt_zpow_iff (h : SameCell e x v) (hv : (2 : ℝ) ^ e ≤ v) (j : Int) : x < (2 : ℝ) ^ j ↔ v < (2 : ℝ) ^ j := by
  by_cases hj : e ≤ j
  · have hmultiple : (2 : ℝ) ^ j = ((2 ^ (j - e).toNat : Nat) : ℝ) * (2 : ℝ) ^ e := by
      rw [natPow_mul_zpow]
      congr 1
      omega
    rw [hmultiple]
    exact h.lt_iff _
  · have hbelow : (2 : ℝ) ^ j ≤ (2 : ℝ) ^ e := zpow_le_zpow_right₀ one_le_two (by omega)
    have hx : (2 : ℝ) ^ e ≤ x := by
      have := (h 1).2
      rw [Nat.cast_one, one_mul] at this
      exact this.2 hv
    exact iff_of_false (by linarith) (by linarith)

/-- The direction chosen does not tell them apart, between neighbours whose middle is on the grid. -/
theorem roundsAway_iff {low mid : Nat} {lo hi : ℝ} {odd : Prop} (h : SameCell e x v) (hlo : lo = (low : ℝ) * (2 : ℝ) ^ e)
    (hmid : lo + hi = 2 * ((mid : ℝ) * (2 : ℝ) ^ e)) : RoundsAway rd neg lo hi x odd ↔ RoundsAway rd neg lo hi v odd := by
  have hne : lo ≠ x ↔ lo ≠ v := by rw [hlo]; exact (h.eq_iff low).not
  obtain rfl | rfl | rfl | rfl := direction_cases rd
  · rw [roundsAway_nearest, roundsAway_nearest, hmid, mul_lt_mul_iff_right₀ two_pos, mul_lt_mul_iff_right₀ two_pos,
      mul_right_inj' two_ne_zero, mul_right_inj' two_ne_zero, (h mid).1, h.eq_iff mid]
  · exact Iff.rfl
  · rw [roundsAway_up, roundsAway_up, hne]
  · rw [roundsAway_down, roundsAway_down, hne]

end SameCell

/-- A number with a last bit for what was cut off lies as the number itself. -/
theorem sameCell_sticky {n : Nat} {e : Int} {x : ℝ} {exact : Prop} [Decidable exact] (hle : (n : ℝ) * (2 : ℝ) ^ e ≤ x)
    (hlt : x < ((n : ℝ) + 1) * (2 : ℝ) ^ e) (hexact : exact ↔ (n : ℝ) * (2 : ℝ) ^ e = x) :
    SameCell e x (((2 * n + if exact then 0 else 1 : Nat) : ℝ) * (2 : ℝ) ^ (e - 1)) := by
  have hpos : (0 : ℝ) < (2 : ℝ) ^ e := by positivity
  rw [zpow_sub_one₀ two_ne_zero]
  by_cases h : exact
  · have hx : ((2 * n + if exact then 0 else 1 : Nat) : ℝ) * ((2 : ℝ) ^ e * 2⁻¹) = x := by
      rw [← hexact.1 h, if_pos h]
      push_cast
      ring
    rw [hx]
    exact fun _ => ⟨Iff.rfl, Iff.rfl⟩
  · have hne : (n : ℝ) * (2 : ℝ) ^ e ≠ x := h ∘ hexact.2
    have hv : ((2 * n + if exact then 0 else 1 : Nat) : ℝ) * ((2 : ℝ) ^ e * 2⁻¹) = ((n : ℝ) + 1 / 2) * (2 : ℝ) ^ e := by
      rw [if_neg h]
      push_cast
      ring
    rw [hv]
    -- both lie strictly between n and n + 1 units
    intro k
    obtain hk | hk : k ≤ n ∨ n + 1 ≤ k := by omega
    · have hkn : (k : ℝ) * (2 : ℝ) ^ e ≤ (n : ℝ) * (2 : ℝ) ^ e := mul_le_mul_of_nonneg_right (by exact_mod_cast hk) hpos.le
      have h1 : (k : ℝ) * (2 : ℝ) ^ e < x := hkn.trans_lt (lt_of_le_of_ne hle hne)
      have h2 : (k : ℝ) * (2 : ℝ) ^ e < ((n : ℝ) + 1 / 2) * (2 : ℝ) ^ e :=
        hkn.trans_lt (mul_lt_mul_of_pos_right (by linarith) hpos)
      exact ⟨iff_of_true h1 h2, iff_of_true h1.le h2.le⟩
    · have hnk : ((n : ℝ) + 1) * (2 : ℝ) ^ e ≤ (k : ℝ) * (2 : ℝ) ^ e :=
        mul_le_mul_of_nonneg_right (by exact_mod_cast hk) hpos.le
      have h1 : x < (k : ℝ) * (2 : ℝ) ^ e := hlt.trans_le hnk
      have h2 : ((n : ℝ) + 1 / 2) * (2 : ℝ) ^ e < (k : ℝ) * (2 : ℝ) ^ e :=
        (mul_lt_mul_of_pos_right (by linarith) hpos).trans_le hnk
      exact ⟨iff_of_false h1.not_gt h2.not_gt, iff_of_false h1.not_ge h2.not_ge⟩

/-! ## Rounding does not tell them apart -/

/-- Every bit pattern is q units of a binade. -/
theorem lowBits_surjective (fmt : Format) (low : Nat) :
    ∃ K q, low = fmt.lowBits K q ∧ q < 2 ^ (fmt.fracBits + 1) ∧ (K = 0 ∨ 2 ^ fmt.fracBits ≤ q) := by
  have hpos : 0 < 2 ^ fmt.fracBits := by positivity
  have hsplit := Nat.div_add_mod' low (2 ^ fmt.fracBits)
  have hmod := Nat.mod_lt low hpos
  simp only [Format.lowBits, pow_succ]
  by_cases hzero : low / 2 ^ fmt.fracBits = 0
  · exact ⟨0, low, by omega, by rw [hzero] at hsplit; omega, .inl rfl⟩
  · obtain ⟨K, hK⟩ : ∃ K, low / 2 ^ fmt.fracBits = K + 1 := ⟨_, (Nat.succ_pred_eq_of_ne_zero hzero).symm⟩
    rw [hK, add_mul, one_mul] at hsplit
    exact ⟨K, 2 ^ fmt.fracBits + low % 2 ^ fmt.fracBits, by omega, by omega, .inr (Nat.le_add_right _ _)⟩

/-- Neighbours of the format around a number of more bits than the format has, and their middle, are on its grid. -/
theorem neighbours_on_grid {e : Int} {v : ℝ} {low : Nat} (hv : ((2 ^ (fmt.fracBits + 1) : Nat) : ℝ) * (2 : ℝ) ^ e ≤ v)
    (hhigh : v < fmt.magnitude (low + 1)) : ∃ lo mid hi : Nat, (fmt.magnitude low : ℝ) = (lo : ℝ) * (2 : ℝ) ^ e ∧
      (fmt.magnitude (low + 1) : ℝ) = (hi : ℝ) * (2 : ℝ) ^ e ∧
      (fmt.magnitude low : ℝ) + fmt.magnitude (low + 1) = 2 * ((mid : ℝ) * (2 : ℝ) ^ e) := by
  obtain ⟨K, q, rfl, hsmall, hnormal⟩ := lowBits_surjective fmt low
  have hlow : (fmt.magnitude (fmt.lowBits K q) : ℝ) = (q : ℝ) * (2 : ℝ) ^ (fmt.lowest + K) := by
    rw [Format.lowBits, magnitude_eq hsmall.le hnormal]; push_cast; rfl
  have hup : (fmt.magnitude (fmt.lowBits K q + 1) : ℝ) = ((q : ℝ) + 1) * (2 : ℝ) ^ (fmt.lowest + K) := by
    rw [Format.lowBits, add_assoc, magnitude_eq (Nat.succ_le_of_lt hsmall) (hnormal.imp_right (Nat.le_succ_of_le ·))]
    push_cast; rfl
  rw [hup] at hhigh ⊢
  rw [hlow]
  have hqle : (q : ℝ) + 1 ≤ ((2 ^ (fmt.fracBits + 1) : Nat) : ℝ) := by exact_mod_cast hsmall
  have hunit : e < fmt.lowest + K := by
    have hlt : ((2 ^ (fmt.fracBits + 1) : Nat) : ℝ) * (2 : ℝ) ^ e <
        ((2 ^ (fmt.fracBits + 1) : Nat) : ℝ) * (2 : ℝ) ^ (fmt.lowest + K) :=
      (hv.trans_lt hhigh).trans_le (mul_le_mul_of_nonneg_right hqle (by positivity))
    exact (zpow_lt_zpow_iff_right₀ one_lt_two).1 (lt_of_mul_lt_mul_left hlt (by positivity))
  obtain ⟨j, hj⟩ : ∃ j : Nat, fmt.lowest + K = ((j + 1 : Nat) : Int) + e := ⟨(fmt.lowest + K - e - 1).toNat, by push_cast; omega⟩
  rw [hj, ← natPow_mul_zpow]
  refine ⟨q * 2 ^ (j + 1), (2 * q + 1) * 2 ^ j, (q + 1) * 2 ^ (j + 1), ?_, ?_, ?_⟩ <;> push_cast <;> ring

theorem rounds_of_sameCell {e : Int} {x v : ℝ} {r : Rounded} (h : SameCell e x v)
    (hv : ((2 ^ (fmt.fracBits + 1) : Nat) : ℝ) * (2 : ℝ) ^ e ≤ v) (hr : fmt.rounds rd ufm neg v r) :
    fmt.rounds rd ufm neg x r := by
  have hunit : (2 : ℝ) ^ e ≤ v := by
    refine le_trans ?_ hv
    have hone : (1 : ℝ) ≤ ((2 ^ (fmt.fracBits + 1) : Nat) : ℝ) := by exact_mod_cast Nat.one_le_two_pow
    exact le_mul_of_one_le_left (by positivity) hone
  have htiny : x < (2 : ℝ) ^ fmt.minExp ↔ v < (2 : ℝ) ^ fmt.minExp := h.lt_zpow_iff hunit _
  have hbeyond : x < (2 : ℝ) ^ (fmt.bias + 1) ↔ v < (2 : ℝ) ^ (fmt.bias + 1) := by
    rw [← zpow_natCast]
    exact h.lt_zpow_iff hunit _
  obtain ⟨hexotic, hover, hnear⟩ := hr
  refine ⟨hexotic.trans htiny.symm, fun hle => hover (not_lt.1 fun hlt => absurd hle (not_le.2 (hbeyond.2 hlt))), fun hlt => ?_⟩
  obtain ⟨low, m, hlow, hle, hhigh, hbits, haway, htoward, hnx, hdz, huf, hufSure, hof, hnv⟩ := hnear (hbeyond.1 hlt)
  obtain ⟨lo, mid, hi, hlo, hhi, hmid⟩ := neighbours_on_grid hv hhigh
  have hdirection : fmt.awayFromZero rd neg x low ↔ fmt.awayFromZero rd neg v low := h.roundsAway_iff hlo hmid
  have hinexact : (fmt.magnitude low : ℝ) ≠ x ↔ (fmt.magnitude low : ℝ) ≠ v := by rw [hlo]; exact (h.eq_iff lo).not
  refine ⟨low, m, hlow, ?_, ?_, hbits, haway ∘ hdirection.1, fun hnot => htoward (hnot ∘ hdirection.2), hnx.trans hinexact.symm,
    hdz, ?_, ?_, hof, hnv⟩
  · rw [hlo] at hle ⊢; exact (h lo).2.2 hle
  · rw [hhi] at hhigh ⊢; exact (h.lt_iff hi).2 hhigh
  · rw [hinexact, htiny]; exact huf
  · rw [hinexact, htiny]; exact hufSure

end

end Sys2Proof.Machine
end

section
/-! The operations as real arithmetic (`45_fpop_cpop.md` R436, R443 to R466). -/

namespace Sys2Proof.Machine

open Sys2Proof

section
variable {fmt : Format} {rd : BitVec 2} {ufm neg negZero : Bool} {nan : Nat}

/-! ## Results by their sign and magnitude -/

theorem gives_of_rounds {x : ℝ} {r : Rounded} (hx : 0 < x) (h : fmt.rounds rd ufm neg x r) :
    fmt.gives rd ufm negZero ((if neg then -1 else 1) * x) r := by
  cases neg with
  | false =>
    rw [if_neg Bool.false_ne_true, one_mul]
    exact ⟨fun hzero => absurd hzero hx.ne', fun _ => h, fun hlt => absurd hlt hx.not_gt⟩
  | true =>
    rw [if_pos rfl, neg_one_mul]
    exact ⟨fun hzero => by linarith, fun hlt => by linarith, fun _ => by rwa [neg_neg]⟩

theorem gives_zero : fmt.gives rd ufm negZero 0 (fmt.finish rd ufm nan (.zero negZero)) :=
  ⟨fun _ => rfl, fun h => absurd h (lt_irrefl 0), fun h => absurd h (lt_irrefl 0)⟩

theorem gives_value (hfmt : fmt.Usable) (neg : Bool) (m : Nat) (e : Int) :
    fmt.gives rd ufm negZero ((if neg then -1 else 1) * ((m : ℝ) * (2 : ℝ) ^ e))
      (fmt.finish rd ufm nan (if m = 0 then .zero negZero else .value neg m e)) := by
  by_cases hm : m = 0
  · rw [if_pos hm, hm, Nat.cast_zero, zero_mul, mul_zero]
    exact gives_zero
  · rw [if_neg hm]
    have hpos : (0 : ℝ) < m := by exact_mod_cast Nat.pos_of_ne_zero hm
    exact gives_of_rounds (by positivity) (round_rounds hfmt hm)

/-- An integer of units. -/
theorem gives_integer (hfmt : fmt.Usable) (v e : Int) : fmt.gives rd ufm negZero ((v : ℝ) * (2 : ℝ) ^ e)
    (fmt.finish rd ufm nan (if v = 0 then .zero negZero else .value (decide (v < 0)) v.natAbs e)) := by
  have hsign : (v : ℝ) = (if decide (v < 0) then -1 else 1) * ((v.natAbs : Nat) : ℝ) := by
    rw [Nat.cast_natAbs]
    by_cases hlt : v < 0
    · simp [hlt, abs_of_neg hlt]
    · simp [hlt, abs_of_nonneg (not_lt.1 hlt)]
  have hvalue := gives_value (rd := rd) (ufm := ufm) (negZero := negZero) (nan := nan) hfmt (decide (v < 0)) v.natAbs e
  rw [← mul_assoc, ← hsign] at hvalue
  simpa only [Int.natAbs_eq_zero] using hvalue

/-- A magnitude with one bit for what was cut off below more bits than the format has. -/
theorem gives_sticky {n : Nat} {e : Int} {x : ℝ} {exact : Prop} [Decidable exact] (hfmt : fmt.Usable)
    (hbits : 2 ^ (fmt.fracBits + 1) ≤ n) (hle : (n : ℝ) * (2 : ℝ) ^ e ≤ x) (hlt : x < ((n : ℝ) + 1) * (2 : ℝ) ^ e)
    (hexact : exact ↔ (n : ℝ) * (2 : ℝ) ^ e = x) :
    fmt.gives rd ufm negZero ((if neg then -1 else 1) * x)
      (fmt.finish rd ufm nan (.value neg (2 * n + if exact then 0 else 1) (e - 1))) := by
  have hpos : 0 < 2 ^ (fmt.fracBits + 1) := by positivity
  have hn : (0 : ℝ) < n := by exact_mod_cast hpos.trans_le hbits
  have hx : 0 < x := lt_of_lt_of_le (by positivity) hle
  have hm : 2 * n + (if exact then 0 else 1) ≠ 0 := by omega
  have hwide : ((2 ^ (fmt.fracBits + 1) : Nat) : ℝ) * (2 : ℝ) ^ e ≤
      ((2 * n + if exact then 0 else 1 : Nat) : ℝ) * (2 : ℝ) ^ (e - 1) := by
    have hhalf : (2 : ℝ) ^ e = 2 * (2 : ℝ) ^ (e - 1) := by rw [← zpow_one_add₀ two_ne_zero, add_sub_cancel]
    rw [hhalf, ← mul_assoc]
    refine mul_le_mul_of_nonneg_right ?_ (by positivity)
    have : 2 ^ (fmt.fracBits + 1) * 2 ≤ 2 * n + if exact then 0 else 1 := by omega
    exact_mod_cast this
  exact gives_of_rounds hx (rounds_of_sameCell (sameCell_sticky hle hlt hexact) hwide (round_rounds hfmt hm))

/-! ## Sum, difference, product -/

section
variable (n1 n2 : Bool) (m1 m2 : Nat) (e1 e2 : Int)

theorem exactAdd_gives (hfmt : fmt.Usable) :
    fmt.gives rd ufm (if n1 = n2 then n1 else decide (rd = 3))
      ((if n1 then -1 else 1) * ((m1 : ℝ) * (2 : ℝ) ^ e1) + (if n2 then -1 else 1) * ((m2 : ℝ) * (2 : ℝ) ^ e2))
      (fmt.finish rd ufm nan (exactAdd rd (.finite n1 m1 e1) (.finite n2 m2 e2))) := by
  have hsum := gives_integer (rd := rd) (ufm := ufm) (nan := nan) (negZero := if n1 = n2 then n1 else decide (rd = 3)) hfmt
    (alignedTo (min e1 e2) n1 m1 e1 + alignedTo (min e1 e2) n2 m2 e2) (min e1 e2)
  rw [Int.cast_add, add_mul, alignedTo, alignedTo, signed_mul_scale n1 m1 (min_le_left e1 e2),
    signed_mul_scale n2 m2 (min_le_right e1 e2)] at hsum
  exact hsum

theorem exactSub_gives (hfmt : fmt.Usable) :
    fmt.gives rd ufm (if n1 ≠ n2 then n1 else decide (rd = 3))
      ((if n1 then -1 else 1) * ((m1 : ℝ) * (2 : ℝ) ^ e1) - (if n2 then -1 else 1) * ((m2 : ℝ) * (2 : ℝ) ^ e2))
      (fmt.finish rd ufm nan (exactSub rd (.finite n1 m1 e1) (.finite n2 m2 e2))) := by
  have hsum := exactAdd_gives (rd := rd) (ufm := ufm) (nan := nan) n1 (!n2) m1 m2 e1 e2 hfmt
  have hzero : (if n1 = !n2 then n1 else decide (rd = 3)) = if n1 ≠ n2 then n1 else decide (rd = 3) := by
    cases n1 <;> cases n2 <;> rfl
  have hnegate : (if (!n2) = true then -1 else 1) * ((m2 : ℝ) * (2 : ℝ) ^ e2) =
      -((if n2 then -1 else 1) * ((m2 : ℝ) * (2 : ℝ) ^ e2)) := by cases n2 <;> simp
  rw [hzero, hnegate, ← sub_eq_add_neg] at hsum
  exact hsum

theorem sign_mul_sign (n1 n2 : Bool) : (if n1 then -1 else 1 : ℝ) * (if n2 then -1 else 1) = if n1 ^^ n2 then -1 else 1 := by
  cases n1 <;> cases n2 <;> simp

theorem sign_div_sign (n1 n2 : Bool) : (if n1 then -1 else 1 : ℝ) / (if n2 then -1 else 1) = if n1 ^^ n2 then -1 else 1 := by
  cases n1 <;> cases n2 <;> simp

theorem exactMul_gives (hfmt : fmt.Usable) :
    fmt.gives rd ufm (n1 ^^ n2)
      ((if n1 then -1 else 1) * ((m1 : ℝ) * (2 : ℝ) ^ e1) * ((if n2 then -1 else 1) * ((m2 : ℝ) * (2 : ℝ) ^ e2)))
      (fmt.finish rd ufm nan (exactMul (.finite n1 m1 e1) (.finite n2 m2 e2))) := by
  have hproduct := gives_value (rd := rd) (ufm := ufm) (nan := nan) (negZero := n1 ^^ n2) hfmt (n1 ^^ n2) (m1 * m2) (e1 + e2)
  rw [← sign_mul_sign, Nat.cast_mul, zpow_add₀ two_ne_zero, mul_mul_mul_comm (m1 : ℝ),
    mul_mul_mul_comm (if n1 = true then (-1 : ℝ) else 1)] at hproduct
  exact hproduct

/-! ## Quotient -/

/-- The quotient of naturals, its rest and the real quotient. -/
theorem natDiv_bounds (a : Nat) {b : Nat} (hb : 0 < b) :
    ((a / b : Nat) : ℝ) ≤ (a : ℝ) / b ∧ (a : ℝ) / b < ((a / b : Nat) : ℝ) + 1 ∧ (a % b = 0 ↔ ((a / b : Nat) : ℝ) = (a : ℝ) / b) := by
  have hpos : (0 : ℝ) < b := by exact_mod_cast hb
  refine ⟨Nat.cast_div_le, ?_, ?_⟩
  · rw [← Nat.floor_div_eq_div (K := ℝ)]
    exact Nat.lt_floor_add_one _
  · rw [eq_div_iff hpos.ne', ← Nat.cast_mul, Nat.cast_inj]
    exact ⟨fun hmod => Nat.div_mul_cancel (Nat.dvd_of_mod_eq_zero hmod),
      fun heq => Nat.mod_eq_zero_of_dvd (Dvd.intro_left _ heq)⟩

theorem exactDiv_gives (hfmt : fmt.Usable) (hm2 : m2 ≠ 0) :
    fmt.gives rd ufm (n1 ^^ n2)
      ((if n1 then -1 else 1) * ((m1 : ℝ) * (2 : ℝ) ^ e1) / ((if n2 then -1 else 1) * ((m2 : ℝ) * (2 : ℝ) ^ e2)))
      (fmt.finish rd ufm nan (exactDiv fmt (.finite n1 m1 e1) (.finite n2 m2 e2))) := by
  by_cases hm1 : m1 = 0
  · have hexact : exactDiv fmt (.finite n1 m1 e1) (.finite n2 m2 e2) = .zero (n1 ^^ n2) := by simp [exactDiv, hm1, hm2]
    rw [hexact, hm1, Nat.cast_zero, zero_mul, mul_zero, zero_div]
    exact gives_zero
  generalize hshift : fmt.fracBits + 3 + m2.log2 = shift
  have hexact : exactDiv fmt (.finite n1 m1 e1) (.finite n2 m2 e2) = .value (n1 ^^ n2)
      (2 * (m1 * 2 ^ shift / m2) + if m1 * 2 ^ shift % m2 = 0 then 0 else 1) (e1 - e2 - (shift : Int) - 1) := by
    simp only [exactDiv, hm1, hm2, if_false, hshift]
  have hpos : (0 : ℝ) < (2 : ℝ) ^ (e1 - e2 - (shift : Int)) := by positivity
  have hquotient : (m1 : ℝ) * (2 : ℝ) ^ e1 / ((m2 : ℝ) * (2 : ℝ) ^ e2) =
      ((m1 * 2 ^ shift : Nat) : ℝ) / m2 * (2 : ℝ) ^ (e1 - e2 - (shift : Int)) := by
    rw [zpow_sub₀ two_ne_zero, zpow_sub₀ two_ne_zero, zpow_natCast]
    push_cast
    field_simp
  have hsign : (if n1 then -1 else 1) * ((m1 : ℝ) * (2 : ℝ) ^ e1) / ((if n2 then -1 else 1) * ((m2 : ℝ) * (2 : ℝ) ^ e2)) =
      (if n1 ^^ n2 then -1 else 1) * ((m1 : ℝ) * (2 : ℝ) ^ e1 / ((m2 : ℝ) * (2 : ℝ) ^ e2)) := by
    rw [mul_div_mul_comm, sign_div_sign]
  have hbits : 2 ^ (fmt.fracBits + 1) ≤ m1 * 2 ^ shift / m2 := by
    rw [Nat.le_div_iff_mul_le (Nat.pos_of_ne_zero hm2)]
    calc 2 ^ (fmt.fracBits + 1) * m2 ≤ 2 ^ (fmt.fracBits + 1) * 2 ^ (m2.log2 + 1) :=
          Nat.mul_le_mul_left _ Nat.lt_log2_self.le
      _ ≤ 2 ^ shift := by rw [← pow_add]; exact Nat.pow_le_pow_right (by decide) (by omega)
      _ ≤ m1 * 2 ^ shift := Nat.le_mul_of_pos_left _ (Nat.pos_of_ne_zero hm1)
  obtain ⟨hle, hlt, hrest⟩ := natDiv_bounds (m1 * 2 ^ shift) (Nat.pos_of_ne_zero hm2)
  rw [hexact, hsign, hquotient]
  exact gives_sticky hfmt hbits (mul_le_mul_of_nonneg_right hle hpos.le) (mul_lt_mul_of_pos_right hlt hpos)
    (hrest.trans (mul_left_inj' hpos.ne').symm)

end

/-! ## Square root -/

theorem sqrtFrom_spec (n : Nat) : ∀ bits r, r * r ≤ n → n < (r + 2 ^ bits) * (r + 2 ^ bits) →
    sqrtFrom n bits r * sqrtFrom n bits r ≤ n ∧ n < (sqrtFrom n bits r + 1) * (sqrtFrom n bits r + 1)
  | 0, _, hle, hlt => ⟨hle, hlt⟩
  | bits + 1, r, hle, hlt => by
    rw [sqrtFrom]
    split
    case isTrue h =>
      refine sqrtFrom_spec n bits _ h ?_
      rwa [add_assoc, ← two_mul, ← pow_succ']
    case isFalse h => exact sqrtFrom_spec n bits r hle (not_le.1 h)

theorem sqrtFloor_spec (n : Nat) : sqrtFloor n * sqrtFloor n ≤ n ∧ n < (sqrtFloor n + 1) * (sqrtFloor n + 1) := by
  refine sqrtFrom_spec n _ 0 (Nat.zero_le _) ?_
  rw [zero_add, ← pow_add]
  exact Nat.lt_log2_self.trans_le (Nat.pow_le_pow_right (by decide) (by omega))

theorem sqrtFloor_bounds (n : Nat) : (sqrtFloor n : ℝ) ≤ Real.sqrt n ∧ Real.sqrt n < (sqrtFloor n : ℝ) + 1 ∧
    (sqrtFloor n * sqrtFloor n = n ↔ (sqrtFloor n : ℝ) = Real.sqrt n) := by
  obtain ⟨hle, hlt⟩ := sqrtFloor_spec n
  refine ⟨Real.le_sqrt_of_sq_le ?_, (Real.sqrt_lt' (by positivity)).2 ?_, ?_⟩
  · rw [sq]; exact_mod_cast hle
  · rw [sq]; exact_mod_cast hlt
  · rw [eq_comm (b := Real.sqrt n), Real.sqrt_eq_iff_mul_self_eq (by positivity) (by positivity), ← Nat.cast_mul, Nat.cast_inj]
    exact eq_comm

theorem le_sqrtFloor {n k : Nat} (h : k * k ≤ n) : k ≤ sqrtFloor n := by
  by_contra hlt
  have hsucc : sqrtFloor n + 1 ≤ k := not_le.1 hlt
  exact (sqrtFloor_spec n).2.not_ge ((Nat.mul_le_mul hsucc hsucc).trans h)

theorem exactSqrt_gives (hfmt : fmt.Usable) (neg : Bool) (m : Nat) (e : Int) (h : neg = false ∨ m = 0) :
    fmt.gives rd ufm neg (Real.sqrt ((if neg then -1 else 1) * ((m : ℝ) * (2 : ℝ) ^ e)))
      (fmt.finish rd ufm nan (exactSqrt fmt (.finite neg m e))) := by
  by_cases hm : m = 0
  · have hexact : exactSqrt fmt (.finite neg m e) = .zero neg := by simp [exactSqrt, hm]
    rw [hexact, hm, Nat.cast_zero, zero_mul, mul_zero, Real.sqrt_zero]
    exact gives_zero
  obtain rfl : neg = false := h.resolve_right hm
  generalize hk : 2 * (fmt.fracBits + 3) + (e % 2).toNat = k
  have hexact : exactSqrt fmt (.finite false m e) = .value false
      (2 * sqrtFloor (m * 2 ^ k) + if sqrtFloor (m * 2 ^ k) * sqrtFloor (m * 2 ^ k) = m * 2 ^ k then 0 else 1)
      ((e - (k : Int)) / 2 - 1) := by
    simp only [exactSqrt, hm, if_false, hk, Bool.false_eq_true]
  have heven : e - (k : Int) = (e - (k : Int)) / 2 + (e - (k : Int)) / 2 := by omega
  generalize (e - (k : Int)) / 2 = half at hexact heven
  have hpos : (0 : ℝ) < (2 : ℝ) ^ half := by positivity
  have hroot : Real.sqrt ((m : ℝ) * (2 : ℝ) ^ e) = Real.sqrt ((m * 2 ^ k : Nat) : ℝ) * (2 : ℝ) ^ half := by
    have hscale : (m : ℝ) * (2 : ℝ) ^ e = ((m * 2 ^ k : Nat) : ℝ) * ((2 : ℝ) ^ half * (2 : ℝ) ^ half) := by
      have he : e = (k : Int) + (half + half) := by omega
      rw [← zpow_add₀ two_ne_zero, he, zpow_add₀ two_ne_zero, zpow_natCast]
      push_cast
      ring
    rw [hscale, Real.sqrt_mul (Nat.cast_nonneg _), Real.sqrt_mul_self hpos.le]
  have hbits : 2 ^ (fmt.fracBits + 1) ≤ sqrtFloor (m * 2 ^ k) := by
    refine le_sqrtFloor ?_
    rw [← pow_add]
    exact (Nat.pow_le_pow_right (by decide) (by omega)).trans (Nat.le_mul_of_pos_left _ (Nat.pos_of_ne_zero hm))
  obtain ⟨hle, hlt, hrest⟩ := sqrtFloor_bounds (m * 2 ^ k)
  have hgives := gives_sticky (rd := rd) (ufm := ufm) (neg := false) (negZero := false) (nan := nan) hfmt hbits
    (mul_le_mul_of_nonneg_right hle hpos.le) (mul_lt_mul_of_pos_right hlt hpos) (hrest.trans (mul_left_inj' hpos.ne').symm)
  rw [if_neg Bool.false_ne_true, one_mul] at hgives ⊢
  rw [hexact, hroot]
  exact hgives

end

/-- Settles O50. -/
theorem exactArithmetic : Obligations.ExactArithmetic := by
  intro fmt hformat
  have hfmt := usable_of hformat
  refine ⟨fun bits hbits => ⟨unpack_finite hbits, fun heq => ?infinity, fun hlt => ?nan⟩,
    fun rd ufm nan n1 n2 m1 m2 e1 e2 => ⟨exactAdd_gives n1 n2 m1 m2 e1 e2 hfmt, exactSub_gives n1 n2 m1 m2 e1 e2 hfmt,
      exactMul_gives n1 n2 m1 m2 e1 e2 hfmt, exactDiv_gives n1 n2 m1 m2 e1 e2 hfmt, exactSqrt_gives hfmt n1 m1 e1,
      gives_value hfmt n1 m1 e1, fun v => ?integer⟩⟩
  case infinity => rw [unpack_special hbits heq.ge, if_pos heq]
  case nan => rw [unpack_special hbits hlt.le, if_neg hlt.ne']
  case integer =>
    have hinteger := gives_integer (rd := rd) (ufm := ufm) (negZero := false) (nan := nan) hfmt v 0
    rwa [zpow_zero, mul_one] at hinteger

end Sys2Proof.Machine
end

section
/-! User mode (`60_exceptions.md` R550, R551, R552): the fields that only supervisor mode may write, through every
change a body makes and every way an instruction ends. -/

namespace Sys2Proof.Machine

open Sys2Proof

section
variable {i : Instr} {s u t : State}

/-- What supervisor mode alone may write is what it was: WIM, TBA, the PSR but for icc, CWP and PS, and the platform's
data. -/
structure KeepsPrivileged (s t : State) : Prop where
  wim : t.wim = s.wim
  tba : tbaOf t.tbr = tbaOf s.tbr
  ec : t.psr.ec = s.psr.ec
  ef : t.psr.ef = s.psr.ef
  pil : t.psr.pil = s.psr.pil
  et : t.psr.et = s.psr.et
  mode : t.psr.s = s.psr.s
  platform : t.platform = s.platform

theorem keepsPrivileged_of_eq (hwim : t.wim = s.wim) (htbr : t.tbr = s.tbr) (hpsr : t.psr = s.psr)
    (hplatform : t.platform = s.platform) : KeepsPrivileged s t := by
  constructor <;> simp [hwim, htbr, hpsr, hplatform]

/-- A body writes no PSR field but CWP and icc, and neither WIM nor TBR. -/
theorem Body.keepsPrivileged (h : Body i s u) : KeepsPrivileged s u := by
  induction h with
  | start => exact keepsPrivileged_of_eq rfl rfl rfl rfl
  | reg _ _ _ _ ih | popFq _ ih =>
    constructor <;> simp [ih.wim, ih.tba, ih.ec, ih.ef, ih.pil, ih.et, ih.mode, ih.platform]
  | icc _ _ _ ih | cwp _ _ _ ih | y _ _ ih | byte _ _ _ _ _ ih | freg _ _ _ ih | fsr _ _ _ ih | queue _ _ _ ih
    | cp _ _ ih => exact { ih with }

theorem TrapAt.keepsPrivileged (h : TrapAt s u) : KeepsPrivileged s u := by
  cases h <;> exact keepsPrivileged_of_eq rfl rfl rfl rfl

/-- The ends that write the PSR, WIM or TBR, or return from a trap, are those of supervisor mode: in user mode only a
trap is left that may write a privileged field. -/
theorem Ends.keepsPrivileged_or_trap (h : Ends i s t) (huser : s.supervisor = false) :
    KeepsPrivileged s t ∨ ∃ u tr, TrapAt s u ∧ t = u.trap tr := by
  have hnot : s.supervisor ≠ true := by simp [huser]
  cases h with
  | trap tr hat => exact .inr ⟨_, tr, hat, rfl⟩
  | advance kind hb => exact .inl { hb.keepsPrivileged with }
  | writePsr _ _ hs | writeWim _ hs | writeTbr _ hs | rett _ _ _ hs => exact absurd hs hnot
  | writeY => exact .inl (keepsPrivileged_of_eq (writeY_wim ..) (writeY_tbr ..) (writeY_psr ..) (writeY_platform ..))
  | branch => exact .inl (keepsPrivileged_of_eq (branch_wim ..) (branch_tbr ..) (branch_psr ..) (branch_platform ..))
  | jump => exact .inl (keepsPrivileged_of_eq (by simp) (by simp) (by simp) (by simp))

/-- Settles O58: in user mode an instruction keeps the privileged fields or traps, and of these a trap writes S and ET
at its entry (R520), in error mode nothing (R525). -/
theorem userModeKeepsControl : Obligations.UserModeKeepsControl := by
  intro i s t huser ht
  obtain h | ⟨u, tr, hat, rfl⟩ := (exec_ends i s t ht).keepsPrivileged_or_trap huser
  case inl => exact ⟨h.wim, h.tba, h.ec, h.ef, h.pil, .inl h.et, .inl h.mode, h.platform⟩
  case inr =>
    have h := hat.keepsPrivileged
    have htrapped := hat.trapped tr
    cases he : u.trapsEnabled with
    | true =>
      rw [← enterTrap_eq_trap he] at htrapped ⊢
      exact ⟨(enterTrap_wim u tr).trans h.wim, by simp [h.tba], h.ec, h.ef, h.pil, .inr rfl, .inr ⟨htrapped, rfl, rfl⟩,
        (enterTrap_platform u tr).trans h.platform⟩
    | false =>
      rw [← enterError_eq_trap he]
      exact ⟨h.wim, by simp [h.tba], h.ec, h.ef, h.pil, .inl h.et, .inl h.mode, h.platform⟩

end

end Sys2Proof.Machine
end

section
/-! The boundary before an instruction: error mode (`60_exceptions.md` R525) and interrupt requests (R540). -/

namespace Sys2Proof.Machine

open Sys2Proof

section
variable {s t : State} {irl : BitVec 4} {later : List BoundaryInput} {k : Nat}

/-! ## Error mode (R525) -/

theorem input_reset_of_inputs (h : ∀ x ∈ s.inputs, x.reset = false) : s.input.reset = false := by
  unfold State.input
  cases hs : s.inputs with
  | nil => rfl
  | cons x later => exact h x (by simp [hs])

theorem step_of_errorMode (herror : s.errorMode = true) (hreset : s.input.reset = false) : step s = .next s.sampled := by
  simp [step, stepWith, herror, hreset]

theorem sampled_inputs (s : State) : s.sampled.inputs = s.inputs.tail := rfl

/-- A run in error mode samples one input a step. -/
theorem runsTo_of_errorMode (herror : s.errorMode = true) (hreset : ∀ x ∈ s.inputs, x.reset = false) (h : runsTo k s t) :
    t = { s with inputs := s.inputs.drop k } := by
  induction k generalizing s with
  | zero => exact h.symm
  | succ k ih =>
    obtain ⟨m, hstep, hrest⟩ := h
    rw [step_of_errorMode herror (input_reset_of_inputs hreset)] at hstep
    obtain rfl : s.sampled = m := by injection hstep
    have hlater : ∀ x ∈ s.sampled.inputs, x.reset = false := fun x hx => hreset x (List.mem_of_mem_tail hx)
    rw [ih (s := s.sampled) herror hlater hrest, sampled_inputs, List.drop_tail]
    rfl

/-- Settles O57, by induction on the length of the run. -/
theorem errorModeHalts : Obligations.ErrorModeHalts := fun _ _ _ => runsTo_of_errorMode

/-! ## Interrupts (R540) -/

/-- A step at whose boundary no reset is requested takes the interrupt or executes the instruction at PC. -/
theorem step_of_request (herror : s.errorMode = false) (hinputs : s.inputs = ⟨false, irl⟩ :: later) :
    step s = if State.interruptAccepted { s with inputs := later } irl
      then .next (State.enterTrap { s with inputs := later } (.interrupt irl))
      else executeWord exec (State.aged { s with inputs := later }) (State.fetch { s with inputs := later }) := by
  simp [step, stepWith, State.input, State.sampled, hinputs, herror]

/-- Outside the window of a WRPSR the acceptance test reads ET and PIL as they are. -/
theorem interruptAccepted_iff (hpsr : s.psrWrite.left = 0) :
    s.interruptAccepted irl = true ↔ s.psr.et = true ∧ (irl = 15 ∨ s.psr.pil.toNat < irl.toNat) := by
  have het : s.acceptEt = s.psr.et := by simp [State.acceptEt, DelayedWrite.doubts, hpsr]
  have hpil : s.acceptPil = s.psr.pil := by simp [State.acceptPil, DelayedWrite.doubts, hpsr]
  have hne : irl = 15 ∨ s.psr.pil.toNat < irl.toNat → irl ≠ 0 := by
    rintro hirl rfl
    simp at hirl
  simp only [State.interruptAccepted, het, hpil, Bool.and_eq_true, Bool.or_eq_true, decide_eq_true_eq, BitVec.lt_def]
  exact ⟨fun ⟨⟨_, hon⟩, hirl⟩ => ⟨hon, hirl⟩, fun ⟨hon, hirl⟩ => ⟨⟨hne hirl, hon⟩, hirl⟩⟩

theorem interruptAccepted_zero (s : State) : s.interruptAccepted 0 = false := by simp [State.interruptAccepted]

theorem interrupt_tt (irl : BitVec 4) : (Trap.interrupt irl).tt = BitVec.ofNat 8 (0x10 + irl.toNat) := by
  apply BitVec.eq_of_toNat_eq
  simp [Trap.tt]

end

/-- Settles O55: the level sampled decides only whether the interrupt is accepted, and level 0 is never accepted. -/
theorem interruptTaken : Obligations.InterruptTaken := by
  intro s irl later hpsr herror hinputs
  have haccepted := interruptAccepted_iff (s := { s with inputs := later }) (irl := irl) hpsr
  obtain ⟨-, -, -, -, hview, -⟩ := psrViews_of (s := { s with inputs := later }) hpsr
  rw [step_of_request herror hinputs]
  refine ⟨fun het hirl => ?taken, fun hnot => ?executed⟩
  case taken =>
    rw [if_pos (haccepted.2 ⟨het, hirl⟩), completes_next, ← interrupt_tt]
    exact enterTrap_trapsTo _ _ (hview.trans het)
  case executed =>
    have hrefused : ¬ (s.psr.et = true ∧ (irl = 15 ∨ s.psr.pil.toNat < irl.toNat)) := by
      rintro ⟨het, hirl⟩
      obtain hoff | ⟨hle, hne⟩ := hnot
      · simp [hoff] at het
      · exact hirl.elim hne (Nat.not_lt.2 hle)
    rw [if_neg (mt haccepted.1 hrefused), step_of_request (s := { s with inputs := ⟨false, 0⟩ :: later }) herror rfl,
      interruptAccepted_zero, if_neg Bool.false_ne_true]

end Sys2Proof.Machine
end

section
/-! The reset input at an instruction boundary (`70_reset_and_hazards.md` R570, R571): what external reset sets, what it
keeps, and what bounds the values it leaves free. -/

namespace Sys2Proof.Machine

open Sys2Proof

/-! ## What external reset sets (R70, R570) -/

/-- Reset is answered before error mode, interrupts and the instruction at PC are looked at. -/
theorem step_of_reset {s : State} (hreset : s.input.reset = true) : step s = .next s.sampled.externalReset := by
  simp [step, stepWith, hreset]

theorem externalReset_control (s : State) : s.externalReset.pc = 0#32 ∧ s.externalReset.npc = 4#32 ∧
    s.externalReset.psr.s = true ∧ s.externalReset.psr.et = false ∧ s.externalReset.errorMode = false :=
  ⟨rfl, rfl, rfl, rfl, rfl⟩

theorem externalReset_fpu (s : State) : s.externalReset.fpuMode = .execute ∧ s.externalReset.fq = [] ∧
    s.externalReset.fsr.ftt = 0 ∧ s.externalReset.fsr.qne = false :=
  ⟨rfl, rfl, rfl, rfl⟩

theorem externalReset_windows (s : State) : s.externalReset.psrWrite.left = 0 ∧ s.externalReset.wimWrite.left = 0 ∧
    s.externalReset.tbrWrite.left = 0 ∧ s.externalReset.yWrite.left = 0 :=
  ⟨close_left _, close_left _, close_left _, close_left _⟩

/-! ## The free values (log 21): WIM has a bit for each window, TBR ends in four zeros -/

theorem externalReset_wim_lt (s : State) : s.externalReset.wim.toNat < 256 := lowByte_lt _

theorem externalReset_tbr (s : State) : ∃ tba, s.externalReset.tbr = tbrWord tba (ttOf s.tbr) := ⟨_, rfl⟩

theorem tbrWord_mod (tba : BitVec 20) (tt : BitVec 8) : (tbrWord tba tt).toNat % 16 = 0 := by
  rw [tbrWord_toNat]
  omega

/-! ## What external reset keeps (R571) -/

theorem externalReset_keeps (s : State) : s.externalReset.psr.cwp = s.psr.cwp ∧ s.externalReset.mem = s.mem ∧
    s.externalReset.platform = s.platform ∧ s.externalReset.inputs = s.inputs :=
  ⟨rfl, rfl, rfl, rfl⟩

/-- Settles O56: the step is external reset of the sampled state, and sampling changes only the inputs. -/
theorem externalReset : Obligations.ExternalReset := by
  intro s hreset
  obtain ⟨hpc, hnpc, hs, het, herror⟩ := externalReset_control s.sampled
  obtain ⟨hmode, hfq, hftt, hqne⟩ := externalReset_fpu s.sampled
  obtain ⟨hpsr, hwim, htbr, hy⟩ := externalReset_windows s.sampled
  obtain ⟨tba, htbrValue⟩ := externalReset_tbr s.sampled
  obtain ⟨hcwp, hmem, hplatform, hinputs⟩ := externalReset_keeps s.sampled
  have htt : ttOf s.sampled.externalReset.tbr = ttOf s.tbr := by rw [htbrValue, ttOf_tbrWord, sampled_tbr]
  have htbrLow : s.sampled.externalReset.tbr.toNat % 16 = 0 := by rw [htbrValue, tbrWord_mod]
  rw [step_of_reset hreset, completes_next]
  exact ⟨hpc, hnpc, hs, het, herror, hmode, hfq, hftt, hqne, hpsr, hwim, htbr, hy, htt, hcwp, externalReset_wim_lt _,
    htbrLow, fun _ => regIn_zero .., keepsMemory_of_eq hmem, hplatform, hinputs⟩

end Sys2Proof.Machine
end
